-- ==== Sys2Proof/Word.lean ====
section
/-! DEFINITION. The bit-vector types of CRCFC: registers are unsigned 32-bit words (R8), the port takes 37-bit T words
(R100) with a 4-bit word address (R70), and the streams carry bytes (R75, R79). -/

namespace Sys2Proof

/-- A register or a transaction's data: an unsigned 32-bit word (R8, R74). -/
abbrev Word := BitVec 32

/-- A byte of the input or output stream (R9). -/
abbrev Byte := BitVec 8

/-- The word address of a slot of the register window, 0 to 15 (R34, R70). -/
abbrev Slot := BitVec 4

/-- One transaction in format T, 37 bits (R100, R101). -/
abbrev TWord := BitVec 37

end Sys2Proof
end

