-- ==== Sys2Proof/Config.lean ====
section
/-! DEFINITION. What an implementation fixes and the spec leaves open: only the host address of the register window.
Every other parameter of R7 is fixed and stands where it is used. -/

namespace Sys2Proof

/-- `CRCFC_BASE`, the host address of slot 0 (R7, R34, R85). OPEN (92_eei_decisions.md D29): a constant without a value,
which no rule of the block and no meaning of the model reads. DESIGN CHOICE, log entry 6; safe. -/
opaque Config.crcfcBase : Nat

/-- The host address of a slot, `CRCFC_BASE + 4 * n` (R34). -/
def Config.slotHostAddress (slot : Slot) : Nat := Config.crcfcBase + 4 * slot.toNat

end Sys2Proof
end

