-- ==== Sys2Proof/Syntax.lean ====
section
/-! DEFINITION. The instructions of CRCFC: the host's transactions (R100), one constructor per row of
spec/opcode_table.json. A write keeps its 32-bit data, a read has none, since its data field is not decoded (R107). -/

namespace Sys2Proof

/-- One host transaction. `data` is T[31:0] and `slot` is T[35:32] (R101). -/
inductive Instr where
  /-- `cmd CRC_INIT` (R164). -/
  | cmdCrcInit
  /-- `cmd CRC_END` (R166). -/
  | cmdCrcEnd
  /-- `cmd ENC_START` (R193). -/
  | cmdEncStart
  /-- `cmd DEC_START` (R220). -/
  | cmdDecStart
  /-- `cmd DEC_END` (R225). -/
  | cmdDecEnd
  /-- `cmd ABORT` (R260). -/
  | cmdAbort
  /-- `cmd CLEAR` (R261). -/
  | cmdClear
  /-- A write to CMD of a word that is no command (R267). -/
  | cmdRsvd (data : Word)
  /-- A write to the read-only STATUS (R265). -/
  | wrStatus (data : Word)
  /-- A write to TYPE (R138). -/
  | wrType (data : Word)
  /-- A write to LEN (R191). -/
  | wrLen (data : Word)
  /-- A write to the read-only TCPROP (R265). -/
  | wrTcprop (data : Word)
  /-- A write to the read-only CRC_STATE (R265). -/
  | wrCrcState (data : Word)
  /-- A write to the read-only CRC_OUT (R265). -/
  | wrCrcOut (data : Word)
  /-- A write to the read-only CRC_RX (R265). -/
  | wrCrcRx (data : Word)
  /-- A write to the read-only CNT (R265). -/
  | wrCnt (data : Word)
  /-- A write to DIN (R269); its byte is `data[7:0]` (R75). -/
  | wrDin (data : Word)
  /-- A write to the reserved slot 10 or 11 (R266). -/
  | wrRsvd1011 (slot : Slot) (data : Word)
  /-- A write to a reserved slot 12 to 15 (R266). -/
  | wrRsvd1215 (slot : Slot) (data : Word)
  /-- A read of the write-only CMD (R264). -/
  | rdCmd
  /-- A read of STATUS (R262). -/
  | rdStatus
  /-- A read of TYPE (R139). -/
  | rdType
  /-- A read of LEN (R192). -/
  | rdLen
  /-- A read of TCPROP (R137). -/
  | rdTcprop
  /-- A read of CRC_STATE (R167). -/
  | rdCrcState
  /-- A read of CRC_OUT (R168). -/
  | rdCrcOut
  /-- A read of CRC_RX (R226). -/
  | rdCrcRx
  /-- A read of CNT (R263). -/
  | rdCnt
  /-- A read of the write-only DIN (R264). -/
  | rdDin
  /-- A read of the reserved slot 10 or 11 (R266). -/
  | rdRsvd1011 (slot : Slot)
  /-- A read of a reserved slot 12 to 15 (R266). -/
  | rdRsvd1215 (slot : Slot)
  deriving DecidableEq, Repr

end Sys2Proof
end

