-- ==== Sys2Proof/WellFormed.lean ====
section
/-! DEFINITION. Which terms of Instr stand for a T word: the operands lie where their row of the opcode table puts them. -/

namespace Sys2Proof

/-- The seven command words of R103: 0x00000001 to 0x00000007. -/
def isCommandWord (data : Word) : Bool := 1 ≤ data && data ≤ 7

/-- Slots 10 and 11 (R266, the table's rows _10_11). -/
def isSlot1011 (slot : Slot) : Bool := 10 ≤ slot && slot ≤ 11

/-- Slots 12 to 15 (R266, the table's rows _12_15). -/
def isSlot1215 (slot : Slot) : Bool := 12 ≤ slot

/-- An instruction is well formed when a reserved command is not one of the seven commands (R267) and a reserved slot is
one of its row's slots (R266); every other operand may hold any value. -/
def Instr.wf : Instr → Bool
  | .cmdCrcInit | .cmdCrcEnd | .cmdEncStart | .cmdDecStart | .cmdDecEnd | .cmdAbort | .cmdClear => true
  | .cmdRsvd data => !isCommandWord data
  | .wrStatus _ | .wrType _ | .wrLen _ | .wrTcprop _ | .wrCrcState _ | .wrCrcOut _ | .wrCrcRx _ | .wrCnt _
  | .wrDin _ => true
  | .wrRsvd1011 slot _ => isSlot1011 slot
  | .wrRsvd1215 slot _ => isSlot1215 slot
  | .rdCmd | .rdStatus | .rdType | .rdLen | .rdTcprop | .rdCrcState | .rdCrcOut | .rdCrcRx | .rdCnt | .rdDin => true
  | .rdRsvd1011 slot => isSlot1011 slot
  | .rdRsvd1215 slot => isSlot1215 slot

end Sys2Proof
end

