-- ==== Sys2Proof/Decode.lean ====
section
/-! DEFINITION. Decoding T words into instructions (R101 to R107), the encoder written from the same tables, and the
opcode table itself as rows of a mask and a pattern. -/

namespace Sys2Proof

/-! ## The fields of format T (R101) -/

/-- `rw`, bit 36: 1 for a write, 0 for a read. -/
def TWord.isWrite (w : TWord) : Bool := w.getLsbD 36

/-- `addr`, bits 35:32. -/
def TWord.addr (w : TWord) : Slot := w.extractLsb' 32 4

/-- `data`, bits 31:0. -/
def TWord.data (w : TWord) : Word := w.extractLsb' 0 32

/-! ## Decoding -/

/-- The command a CMD write selects: the data word is compared whole (R102, R103). -/
def decodeCommand (data : Word) : Instr :=
  match data.toNat with
  | 1 => .cmdCrcInit
  | 2 => .cmdCrcEnd
  | 3 => .cmdEncStart
  | 4 => .cmdDecStart
  | 5 => .cmdDecEnd
  | 6 => .cmdAbort
  | 7 => .cmdClear
  | _ => .cmdRsvd data

/-- The rows with rw = 1 of R104. -/
def decodeWrite (slot : Slot) (data : Word) : Instr :=
  match slot.toNat with
  | 0 => decodeCommand data
  | 1 => .wrStatus data
  | 2 => .wrType data
  | 3 => .wrLen data
  | 4 => .wrTcprop data
  | 5 => .wrCrcState data
  | 6 => .wrCrcOut data
  | 7 => .wrCrcRx data
  | 8 => .wrCnt data
  | 9 => .wrDin data
  | 10 => .wrRsvd1011 slot data
  | 11 => .wrRsvd1011 slot data
  | _ => .wrRsvd1215 slot data

/-- The rows with rw = 0 of R104; the data field is not decoded (R107). -/
def decodeRead (slot : Slot) : Instr :=
  match slot.toNat with
  | 0 => .rdCmd
  | 1 => .rdStatus
  | 2 => .rdType
  | 3 => .rdLen
  | 4 => .rdTcprop
  | 5 => .rdCrcState
  | 6 => .rdCrcOut
  | 7 => .rdCrcRx
  | 8 => .rdCnt
  | 9 => .rdDin
  | 10 => .rdRsvd1011 slot
  | 11 => .rdRsvd1011 slot
  | _ => .rdRsvd1215 slot

/-- Decoding is total: every T word selects exactly one transaction (R104, R105). -/
def decode (w : TWord) : Instr :=
  if w.isWrite then decodeWrite w.addr w.data else decodeRead w.addr

/-- Why a number is no transaction. -/
inductive DecodeError where
  /-- The number has a bit above bit 36: format T has 37 bits and there is no other length (R100). -/
  | widerThanT
  deriving DecidableEq, Repr

/-- Read a number as a T word, or reject it by name when it is wider than 37 bits (R100; log entry 9). -/
def tWordOfNat (n : Nat) : Except DecodeError TWord :=
  if n < 2 ^ 37 then .ok (BitVec.ofNat 37 n) else .error .widerThanT

/-- Decode any number: the instruction of its T word, or the reason it has none. -/
def decodeNat (n : Nat) : Except DecodeError Instr :=
  match tWordOfNat n with
  | .ok w => .ok (decode w)
  | .error e => .error e

/-- The instruction read from the `nbits` low bits of `w`, numbered as spec/opcode_table.json numbers them (R101). -/
def decodeTableWord (nbits w : Nat) : Option Instr :=
  match decodeNat (w % 2 ^ nbits) with
  | .ok i => some i
  | .error _ => none

/-! ## Encoding -/

/-- Assemble a T word from its fields (R101). -/
def tWord (rw : BitVec 1) (slot : Slot) (data : Word) : TWord := rw ++ slot ++ data

/-- A write of `data` to a slot. -/
def tWrite (slot : Slot) (data : Word) : TWord := tWord 1 slot data

/-- The canonical read of a slot, with data 0 (R101). -/
def tRead (slot : Slot) : TWord := tWord 0 slot 0

/-- The T word of an instruction (R103, R104); a read in its canonical form. -/
def encode : Instr → TWord
  | .cmdCrcInit => tWrite 0 1
  | .cmdCrcEnd => tWrite 0 2
  | .cmdEncStart => tWrite 0 3
  | .cmdDecStart => tWrite 0 4
  | .cmdDecEnd => tWrite 0 5
  | .cmdAbort => tWrite 0 6
  | .cmdClear => tWrite 0 7
  | .cmdRsvd data => tWrite 0 data
  | .wrStatus data => tWrite 1 data
  | .wrType data => tWrite 2 data
  | .wrLen data => tWrite 3 data
  | .wrTcprop data => tWrite 4 data
  | .wrCrcState data => tWrite 5 data
  | .wrCrcOut data => tWrite 6 data
  | .wrCrcRx data => tWrite 7 data
  | .wrCnt data => tWrite 8 data
  | .wrDin data => tWrite 9 data
  | .wrRsvd1011 slot data => tWrite slot data
  | .wrRsvd1215 slot data => tWrite slot data
  | .rdCmd => tRead 0
  | .rdStatus => tRead 1
  | .rdType => tRead 2
  | .rdLen => tRead 3
  | .rdTcprop => tRead 4
  | .rdCrcState => tRead 5
  | .rdCrcOut => tRead 6
  | .rdCrcRx => tRead 7
  | .rdCnt => tRead 8
  | .rdDin => tRead 9
  | .rdRsvd1011 slot => tRead slot
  | .rdRsvd1215 slot => tRead slot

/-! ## The opcode table (spec/opcode_table.json, R104, R105) -/

/-- A row of the opcode table: a word belongs to the row when its bits under `mask` are those of `pattern`. -/
structure OpcodeRow where
  mnemonic : String
  pattern : TWord
  mask : TWord
  deriving DecidableEq, Repr

/-- The word belongs to the row. -/
def OpcodeRow.accepts (r : OpcodeRow) (w : TWord) : Bool := w &&& r.mask = r.pattern

/-- The rows of the writes to CMD: the seven commands, which take precedence, then the reserved words (R105). -/
def commandRows : List OpcodeRow :=
  [⟨"WR_CMD_CRC_INIT", 0x1000000001, 0x1FFFFFFFFF⟩, ⟨"WR_CMD_CRC_END", 0x1000000002, 0x1FFFFFFFFF⟩,
   ⟨"WR_CMD_ENC_START", 0x1000000003, 0x1FFFFFFFFF⟩, ⟨"WR_CMD_DEC_START", 0x1000000004, 0x1FFFFFFFFF⟩,
   ⟨"WR_CMD_DEC_END", 0x1000000005, 0x1FFFFFFFFF⟩, ⟨"WR_CMD_ABORT", 0x1000000006, 0x1FFFFFFFFF⟩,
   ⟨"WR_CMD_CLEAR", 0x1000000007, 0x1FFFFFFFFF⟩, ⟨"WR_CMD_RSVD", 0x1000000000, 0x1F00000000⟩]

/-- The rows of the writes to the other slots. -/
def writeRows : List OpcodeRow :=
  [⟨"WR_STATUS", 0x1100000000, 0x1F00000000⟩, ⟨"WR_TYPE", 0x1200000000, 0x1F00000000⟩,
   ⟨"WR_LEN", 0x1300000000, 0x1F00000000⟩, ⟨"WR_TCPROP", 0x1400000000, 0x1F00000000⟩,
   ⟨"WR_CRC_STATE", 0x1500000000, 0x1F00000000⟩, ⟨"WR_CRC_OUT", 0x1600000000, 0x1F00000000⟩,
   ⟨"WR_CRC_RX", 0x1700000000, 0x1F00000000⟩, ⟨"WR_CNT", 0x1800000000, 0x1F00000000⟩,
   ⟨"WR_DIN", 0x1900000000, 0x1F00000000⟩, ⟨"WR_RSVD_10_11", 0x1A00000000, 0x1E00000000⟩,
   ⟨"WR_RSVD_12_15", 0x1C00000000, 0x1C00000000⟩]

/-- The rows of the reads. -/
def readRows : List OpcodeRow :=
  [⟨"RD_CMD", 0x0000000000, 0x1F00000000⟩, ⟨"RD_STATUS", 0x0100000000, 0x1F00000000⟩,
   ⟨"RD_TYPE", 0x0200000000, 0x1F00000000⟩, ⟨"RD_LEN", 0x0300000000, 0x1F00000000⟩,
   ⟨"RD_TCPROP", 0x0400000000, 0x1F00000000⟩, ⟨"RD_CRC_STATE", 0x0500000000, 0x1F00000000⟩,
   ⟨"RD_CRC_OUT", 0x0600000000, 0x1F00000000⟩, ⟨"RD_CRC_RX", 0x0700000000, 0x1F00000000⟩,
   ⟨"RD_CNT", 0x0800000000, 0x1F00000000⟩, ⟨"RD_DIN", 0x0900000000, 0x1F00000000⟩,
   ⟨"RD_RSVD_10_11", 0x0A00000000, 0x1E00000000⟩, ⟨"RD_RSVD_12_15", 0x0C00000000, 0x1C00000000⟩]

/-- The whole opcode table, 31 rows. -/
def opcodeTable : List OpcodeRow := commandRows ++ writeRows ++ readRows

/-- The number of the instruction's row in the opcode table, counted from 0. -/
def Instr.tableRow : Instr → Nat
  | .cmdCrcInit => 0
  | .cmdCrcEnd => 1
  | .cmdEncStart => 2
  | .cmdDecStart => 3
  | .cmdDecEnd => 4
  | .cmdAbort => 5
  | .cmdClear => 6
  | .cmdRsvd _ => 7
  | .wrStatus _ => 8
  | .wrType _ => 9
  | .wrLen _ => 10
  | .wrTcprop _ => 11
  | .wrCrcState _ => 12
  | .wrCrcOut _ => 13
  | .wrCrcRx _ => 14
  | .wrCnt _ => 15
  | .wrDin _ => 16
  | .wrRsvd1011 _ _ => 17
  | .wrRsvd1215 _ _ => 18
  | .rdCmd => 19
  | .rdStatus => 20
  | .rdType => 21
  | .rdLen => 22
  | .rdTcprop => 23
  | .rdCrcState => 24
  | .rdCrcOut => 25
  | .rdCrcRx => 26
  | .rdCnt => 27
  | .rdDin => 28
  | .rdRsvd1011 _ => 29
  | .rdRsvd1215 _ => 30

/-- The row a word selects: the first of the table that accepts it, so that the command rows precede WR_CMD_RSVD (R105). -/
def selectedRow (w : TWord) : Option OpcodeRow := opcodeTable.find? (·.accepts w)

end Sys2Proof
end

