-- ==== Sys2Proof/Machine/State.lean ====
section
/-! DEFINITION. The architectural state of CRCFC (R33), two fields of the model's own (log entries 1, 2), the state after
reset (R52), and the ways a step could stop. -/

namespace Sys2Proof.Machine

/-- STATUS.MODE, the operation in progress (R37). -/
inductive Mode where
  /-- No operation. -/
  | idle
  /-- Raw checksum accumulation. -/
  | crc
  /-- Frame encoder, payload phase. -/
  | enc
  /-- Frame decoder. -/
  | dec
  deriving DecidableEq, Repr

/-- STATUS.PHASE, the part of a frame being processed (R38); the code 3 is written by no rule and has no constructor
(DEDUCED, log entry 7). -/
inductive Phase where
  /-- Length and type bytes. -/
  | hdr
  /-- Payload bytes. -/
  | pay
  /-- Checksum trailer bytes. -/
  | trl
  deriving DecidableEq, Repr

/-- STATUS.ERR, how the most recent operation failed (R42); the codes 4 to 15 are written by no rule and have no
constructor (DEDUCED, log entry 7). -/
inductive ErrCode where
  /-- NONE. -/
  | none
  /-- INVALID_TYPE_CODE (R301). -/
  | invalidTypeCode
  /-- CHECKSUM_MISMATCH (R302). -/
  | checksumMismatch
  /-- TRUNCATED_INPUT (R303). -/
  | truncatedInput
  deriving DecidableEq, Repr

/-- What the host can do to the block: issue a transaction (R100) or the reset signal (R330). -/
inductive HostEvent where
  /-- A transaction, as its T word. -/
  | txn (w : TWord)
  /-- The reset signal. -/
  | rst
  deriving DecidableEq, Repr

/-- The state of the machine: the twelve elements of R33, then the model's own view of the register port. -/
structure State where
  /-- STATUS[1:0] (R37). -/
  mode : Mode
  /-- STATUS[3:2] (R38). -/
  phase : Phase
  /-- STATUS[6:4], bytes already taken in the header or trailer (R39). -/
  idx : BitVec 3
  /-- STATUS[8], the last operation completed successfully (R40). -/
  done : Bool
  /-- STATUS[9], sticky: a protocol violation occurred (R41). -/
  seqErr : Bool
  /-- STATUS[15:12] (R42). -/
  err : ErrCode
  /-- TYPE, slot 2 (R43). -/
  typeCode : Word
  /-- LEN, slot 3 (R44). -/
  len : Word
  /-- CRC_STATE, slot 5 (R46). -/
  crcState : Word
  /-- CRC_RX, slot 7 (R48). -/
  crcRx : Word
  /-- CNT, slot 8 (R49). -/
  cnt : Word
  /-- OUT, the bytes emitted since the last reset, first byte first (R51). -/
  out : List Byte
  /-- The model's own: the value the last transaction returned on the register port, absent for a write
  (DESIGN CHOICE, log entry 2). -/
  response : Option Word
  /-- The model's own: what the host has issued and the block has not yet taken, oldest first
  (DESIGN CHOICE, log entry 1). -/
  inputs : List HostEvent
  deriving DecidableEq, Repr

/-- The machine right after reset (R52), with no transaction issued and none performed (log entries 1, 2). -/
def State.reset : State where
  mode := .idle
  phase := .hdr
  idx := 0#3
  done := false
  seqErr := false
  err := .none
  typeCode := 0x00000000#32
  len := 0x00000000#32
  crcState := 0xFFFFFFFF#32
  crcRx := 0x00000000#32
  cnt := 0x00000000#32
  out := []
  response := Option.none
  inputs := []

/-- How a step could stop with a fault. CRCFC has no trap and no stuck state (R272, R309), so there is no constructor and
nothing raises one (DEDUCED, log entry 11; safe). -/
inductive Fault
  deriving DecidableEq, Repr

/-- How a step could be refused. -/
inductive Refusal where
  /-- Kept for an instruction without a meaning: only an arm of `exec` could raise it, and none does. Safe. -/
  | notModelled (mnemonic : String)
  deriving DecidableEq, Repr

/-- What a step answers. -/
abbrev Result := Host.Outcome State Fault Refusal

end Sys2Proof.Machine
end

