-- ==== Sys2Proof/Machine/Operands.lean ====
section
/-! DEFINITION. Operand assembly and byte order (R9, R72, R73, R102): the byte of a DIN write, big-endian words, and the
register a received byte is shifted into. -/

namespace Sys2Proof.Machine

/-- `BE32(v)`, the most significant byte first (R9). -/
def be32 (v : Word) : List Byte :=
  [v.extractLsb' 24 8, v.extractLsb' 16 8, v.extractLsb' 8 8, v.extractLsb' 0 8]

/-- `fromBE32(s)` for a 4-byte `s` (R9); no rule uses it at another length, where this gives 0. -/
def fromBE32 : List Byte → Word
  | [b0, b1, b2, b3] => b0 ++ b1 ++ b2 ++ b3
  | _ => 0#32

/-- `Bytes(TYPE)`, the type-code bytes in wire order (R9, R43). -/
def typeBytes (typeCode : Word) : List Byte := be32 typeCode

/-- The byte of a DIN write, `data[7:0]`; `data[31:8]` is ignored (R50, R75). -/
def dinByte (data : Word) : Byte := data.extractLsb' 0 8

/-- `zext_32(b)` (R8, R102). -/
def zext32 (b : Byte) : Word := b.setWidth 32

/-- `(r << 8) OR zext_32(b)`: take the next big-endian byte into a register (R221, R224). -/
def shiftInByte (r : Word) (b : Byte) : Word := (r <<< 8) ||| zext32 b

end Sys2Proof.Machine
end

