-- ==== Sys2Proof/Machine/Checksum.lean ====
section
/-! DEFINITION. The checksum CRC-32/ISO-HDLC (R160 to R163): the byte step of the CRC register and its fold over a
sequence. -/

namespace Sys2Proof.Machine

/-- The generator polynomial in normal form (R7, R160). -/
def crcPolyNormal : Word := 0x04C11DB7#32

/-- The generator polynomial read least significant bit first (R160, 90_conflicts.md C4). -/
def crcPolyReflected : Word := 0xEDB88320#32

/-- The initial register (R7, R160). -/
def crcInitial : Word := 0xFFFFFFFF#32

/-- The final XOR (R7, R160). -/
def crcFinalXor : Word := 0xFFFFFFFF#32

/-- One of the 8 repetitions of `CRC8` (R161). -/
def crcBit (c : Word) : Word :=
  if c.getLsbD 0 then (c >>> 1) ^^^ crcPolyReflected else c >>> 1

/-- `crcBit` repeated `n` times. -/
def crcBits : Nat → Word → Word
  | 0, c => c
  | n + 1, c => crcBits n (crcBit c)

/-- `CRC8(c, b)`, the step of the register by one byte (R161). -/
def crc8 (c : Word) (b : Byte) : Word := crcBits 8 (c ^^^ zext32 b)

/-- `fold(CRC8, c, s)` (R163, R170). -/
def crcFold (c : Word) (s : List Byte) : Word := s.foldl crc8 c

/-- The register's complement, the value CRC_OUT shows (R47). -/
def crcOutOf (c : Word) : Word := c ^^^ crcFinalXor

/-- `Checksum(s)` (R163). -/
def checksum (s : List Byte) : Word := crcOutOf (crcFold crcInitial s)

end Sys2Proof.Machine
end

