-- ==== Sys2Proof/Machine/Flags.lean ====
section
/-! DEFINITION. The computed flags and words: byte classes and type-code properties (R130 to R136), the TCPROP word
(R45), the STATUS word (R36) and CRC_OUT (R47). -/

namespace Sys2Proof.Machine

/-! ## Byte classes (R130) -/

/-- `upper(b)`: 0x41 to 0x5A, "A" to "Z". -/
def upper (b : Byte) : Bool := 0x41#8 ≤ b && b ≤ 0x5A#8

/-- `lower(b)`: 0x61 to 0x7A, "a" to "z". -/
def lower (b : Byte) : Bool := 0x61#8 ≤ b && b ≤ 0x7A#8

/-- `alpha(b)`. -/
def alpha (b : Byte) : Bool := upper b || lower b

/-! ## Type-code properties -/

/-- Type-code byte 0, TYPE[31:24] (R43). -/
def typeByte0 (t : Word) : Byte := t.extractLsb' 24 8

/-- Type-code byte 1, TYPE[23:16] (R43). -/
def typeByte1 (t : Word) : Byte := t.extractLsb' 16 8

/-- Type-code byte 2, TYPE[15:8] (R43). -/
def typeByte2 (t : Word) : Byte := t.extractLsb' 8 8

/-- Type-code byte 3, TYPE[7:0] (R43). -/
def typeByte3 (t : Word) : Byte := t.extractLsb' 0 8

/-- `TC_ALPHA(t)`: every byte of `Bytes(t)` is a letter (R131). -/
def tcAlpha (t : Word) : Bool := (typeBytes t).all alpha

/-- CRITICAL (R132). -/
def tcCritical (t : Word) : Bool := upper (typeByte0 t)

/-- PUBLIC (R133). -/
def tcPublic (t : Word) : Bool := upper (typeByte1 t)

/-- RESERVED_OK (R134). -/
def tcReservedOk (t : Word) : Bool := upper (typeByte2 t)

/-- SAFE_TO_COPY (R135). -/
def tcSafeToCopy (t : Word) : Bool := lower (typeByte3 t)

/-- VALID (R136). -/
def tcValid (t : Word) : Bool := tcAlpha t && tcReservedOk t

/-- A flag as a word, to be shifted to its place. -/
def flagWord (f : Bool) : Word := if f then 1#32 else 0#32

/-- The word a read of TCPROP returns (R45, R137). -/
def tcpropWord (t : Word) : Word :=
  flagWord (tcAlpha t) ||| flagWord (tcCritical t) <<< 1 ||| flagWord (tcPublic t) <<< 2
    ||| flagWord (tcReservedOk t) <<< 3 ||| flagWord (tcSafeToCopy t) <<< 4 ||| flagWord (tcValid t) <<< 5

/-! ## STATUS -/

/-- The code of STATUS.MODE (R37). -/
def Mode.code : Mode → Word
  | .idle => 0#32
  | .crc => 1#32
  | .enc => 2#32
  | .dec => 3#32

/-- The code of STATUS.PHASE (R38). -/
def Phase.code : Phase → Word
  | .hdr => 0#32
  | .pay => 1#32
  | .trl => 2#32

/-- The code of STATUS.ERR (R42). -/
def ErrCode.code : ErrCode → Word
  | .none => 0#32
  | .invalidTypeCode => 1#32
  | .checksumMismatch => 2#32
  | .truncatedInput => 3#32

/-- The word a read of STATUS returns (R36, R262). -/
def statusWord (s : State) : Word :=
  s.err.code <<< 12 ||| flagWord s.seqErr <<< 9 ||| flagWord s.done <<< 8 ||| s.idx.setWidth 32 <<< 4
    ||| s.phase.code <<< 2 ||| s.mode.code

/-- The word a read of CRC_OUT returns (R47, R168). -/
def crcOutWord (s : State) : Word := crcOutOf s.crcState

end Sys2Proof.Machine
end

