-- ==== Sys2Proof/Machine/Ops.lean ====
section
/-! DEFINITION. The operations the transactions share: recording a failure or a protocol violation (R300, R304), emitting
bytes (R79), covering bytes by the checksum (R46), returning read data, the internal steps of the encoder and the decoder
(R195, R222), and the reset signal (R330). CRCFC has no trap; `fail` and `seqerr` are all it has of exceptions (R309). -/

namespace Sys2Proof.Machine

/-- `fail(code)`: end the operation in progress with an error (R300). -/
def fail (code : ErrCode) (s : State) : State :=
  { s with err := code, done := false, mode := .idle }

/-- `seqerr()`: record a protocol violation, and nothing else (R304). -/
def seqerr (s : State) : State := { s with seqErr := true }

/-- Return a value on the register port; a read changes nothing else (R77). -/
def respond (v : Word) (s : State) : State := { s with response := some v }

/-- `Emit(bytes)`: append to OUT in order (R79). -/
def emit (bytes : List Byte) (s : State) : State := { s with out := s.out ++ bytes }

/-- Take bytes into the checksum (R46, R161). -/
def cover (bytes : List Byte) (s : State) : State := { s with crcState := crcFold s.crcState bytes }

/-- Count one byte; counters are modulo 2^32 (R8, R49). -/
def countByte (s : State) : State := { s with cnt := s.cnt + 1#32 }

/-- What the three start commands have in common: the position, counter, checksum register and outcome of a new
operation in the given mode and phase (R164, R193, R220). -/
def startOperation (mode : Mode) (phase : Phase) (s : State) : State :=
  { s with mode := mode, phase := phase, idx := 0#3, crcState := crcInitial, cnt := 0#32, done := false, err := .none }

/-- The operation in progress ends successfully. -/
def complete (s : State) : State := { s with mode := .idle, done := true }

/-- ENC_FINISH: insert the checksum and end the encode (R195). -/
def encFinish (s : State) : State :=
  complete { emit (be32 (crcOutWord s)) s with phase := .trl, idx := 0#3 }

/-- HEADER_CHECK: what follows the 8th header byte (R222). -/
def headerCheck (s : State) : State :=
  let s' := { s with idx := 0#3 }
  if tcAlpha s'.typeCode then
    if s'.len = 0#32 then { s' with phase := .trl } else { s' with phase := .pay }
  else fail .invalidTypeCode s'

/-- A host write of a register that is ignored while the block owns it (R138, R191). -/
def writeUnlessOwned (write : State → State) (s : State) : State :=
  match s.mode with
  | .enc | .dec => seqerr s
  | .idle | .crc => write s

/-- The reset signal: every element takes its reset value and OUT starts empty; what the host has issued after it still
stands (R330, R52; log entry 4). -/
def applyReset (s : State) : State := { State.reset with inputs := s.inputs }

/-- Take the next input: the state in which it is performed, in which no value has been returned yet. -/
def takeInput (rest : List HostEvent) (s : State) : State := { s with inputs := rest, response := none }

/-- Issue a transaction ahead of what the host has issued already. -/
def issueFirst (w : TWord) (s : State) : State := { s with inputs := .txn w :: s.inputs }

end Sys2Proof.Machine
end

