-- ==== Sys2Proof/Machine/Crc.lean ====
section
/-! DEFINITION. The meanings of the CRC family (41_crc.md): CRC_INIT, CRC_END, a byte in CRC mode, RD_CRC_STATE,
RD_CRC_OUT. -/

namespace Sys2Proof.Machine

/-- CRC_INIT (R164). -/
def execCmdCrcInit (s : State) : Result := .next (startOperation .crc .hdr s)

/-- CRC_END (R166). -/
def execCmdCrcEnd (s : State) : Result :=
  .next (match s.mode with
    | .crc => complete s
    | .idle | .enc | .dec => seqerr s)

/-- A DIN byte in CRC mode (R165). -/
def crcByte (b : Byte) (s : State) : State := countByte (cover [b] s)

/-- RD_CRC_STATE (R167). -/
def execRdCrcState (s : State) : Result := .next (respond s.crcState s)

/-- RD_CRC_OUT (R168). -/
def execRdCrcOut (s : State) : Result := .next (respond (crcOutWord s) s)

end Sys2Proof.Machine
end

