-- ==== Sys2Proof/Machine/Decoder.lean ====
section
/-! DEFINITION. The meanings of the frame decoder (43_frame_decoder.md): DEC_START, DEC_END, a byte in DEC mode in each of
the three phases, RD_CRC_RX. -/

namespace Sys2Proof.Machine

/-- DEC_START (R220). -/
def execCmdDecStart (s : State) : Result :=
  .next { startOperation .dec .hdr s with len := 0#32, typeCode := 0#32, crcRx := 0#32 }

/-- DEC_END (R225). -/
def execCmdDecEnd (s : State) : Result :=
  .next (match s.mode with
    | .dec => fail .truncatedInput s
    | .idle | .crc | .enc => seqerr s)

/-- A DIN byte in DEC mode, phase HDR: a length byte or a type byte (R221). -/
def decHeaderByte (b : Byte) (s : State) : State :=
  let s' :=
    if s.idx < 4#3 then { s with len := shiftInByte s.len b }
    else cover [b] { s with typeCode := shiftInByte s.typeCode b }
  if s.idx = 7#3 then headerCheck s' else { s' with idx := s.idx + 1#3 }

/-- A DIN byte in DEC mode, phase PAY (R223). -/
def decPayloadByte (b : Byte) (s : State) : State :=
  let s' := countByte (cover [b] s)
  if s'.cnt = s'.len then { s' with phase := .trl } else s'

/-- A DIN byte in DEC mode, phase TRL: a checksum byte, and after the fourth the verdict (R224). -/
def decTrailerByte (b : Byte) (s : State) : State :=
  let s' := { s with crcRx := shiftInByte s.crcRx b }
  if s.idx = 3#3 then
    let s'' := { s' with idx := 0#3 }
    if crcOutWord s'' = s''.crcRx then complete s'' else fail .checksumMismatch s''
  else { s' with idx := s.idx + 1#3 }

/-- RD_CRC_RX (R226). -/
def execRdCrcRx (s : State) : Result := .next (respond s.crcRx s)

end Sys2Proof.Machine
end

