-- ==== Sys2Proof/Machine/Encoder.lean ====
section
/-! DEFINITION. The meanings of the frame encoder (42_frame_encoder.md): WR_LEN, RD_LEN, ENC_START, a byte in ENC mode. -/

namespace Sys2Proof.Machine

/-- WR_LEN (R191). -/
def execWrLen (data : Word) (s : State) : Result :=
  .next (writeUnlessOwned (fun s => { s with len := data }) s)

/-- RD_LEN (R192). -/
def execRdLen (s : State) : Result := .next (respond s.len s)

/-- The header's part of ENC_START, for a type code: frame bytes 0 to 7 are emitted and the type bytes covered (R193). -/
def encHeader (s : State) : State :=
  cover (typeBytes s.typeCode) (emit (be32 s.len ++ typeBytes s.typeCode) (startOperation .enc .pay s))

/-- ENC_START (R193). -/
def execCmdEncStart (s : State) : Result :=
  .next (
    if tcAlpha s.typeCode then
      if s.len = 0#32 then encFinish (encHeader s) else encHeader s
    else fail .invalidTypeCode s)

/-- A DIN byte in ENC mode (R194). -/
def encByte (b : Byte) (s : State) : State :=
  let s' := countByte (cover [b] (emit [b] s))
  if s'.cnt = s'.len then encFinish s' else s'

end Sys2Proof.Machine
end

