-- ==== Sys2Proof/Machine/Control.lean ====
section
/-! DEFINITION. The meanings of control and register access (44_control.md): ABORT, CLEAR, reserved commands, the dispatch
of DIN writes, the status and counter reads, and the accesses that name no operation. -/

namespace Sys2Proof.Machine

/-- ABORT (R260). -/
def execCmdAbort (s : State) : Result := .next { s with mode := .idle }

/-- CLEAR (R261). -/
def execCmdClear (s : State) : Result := .next { s with done := false, err := .none, seqErr := false }

/-- WR_CMD_RSVD (R267). -/
def execCmdRsvd (_data : Word) (s : State) : Result := .next (seqerr s)

/-- WR_DIN, dispatched on MODE and, in DEC mode, on PHASE (R269); in IDLE a protocol violation (R268). -/
def execWrDin (data : Word) (s : State) : Result :=
  .next (match s.mode with
    | .idle => seqerr s
    | .crc => crcByte (dinByte data) s
    | .enc => encByte (dinByte data) s
    | .dec =>
      match s.phase with
      | .hdr => decHeaderByte (dinByte data) s
      | .pay => decPayloadByte (dinByte data) s
      | .trl => decTrailerByte (dinByte data) s)

/-- WR_STATUS: a write to a read-only slot (R265). -/
def execWrStatus (_data : Word) (s : State) : Result := .next (seqerr s)

/-- WR_TCPROP: a write to a read-only slot (R265). -/
def execWrTcprop (_data : Word) (s : State) : Result := .next (seqerr s)

/-- WR_CRC_STATE: a write to a read-only slot (R265). -/
def execWrCrcState (_data : Word) (s : State) : Result := .next (seqerr s)

/-- WR_CRC_OUT: a write to a read-only slot (R265). -/
def execWrCrcOut (_data : Word) (s : State) : Result := .next (seqerr s)

/-- WR_CRC_RX: a write to a read-only slot (R265). -/
def execWrCrcRx (_data : Word) (s : State) : Result := .next (seqerr s)

/-- WR_CNT: a write to a read-only slot (R265). -/
def execWrCnt (_data : Word) (s : State) : Result := .next (seqerr s)

/-- WR_RSVD, slots 10 and 11 (R266). -/
def execWrRsvd1011 (_slot : Slot) (_data : Word) (s : State) : Result := .next (seqerr s)

/-- WR_RSVD, slots 12 to 15 (R266). -/
def execWrRsvd1215 (_slot : Slot) (_data : Word) (s : State) : Result := .next (seqerr s)

/-- RD_CMD (R264). -/
def execRdCmd (s : State) : Result := .next (respond 0#32 s)

/-- RD_STATUS (R262). -/
def execRdStatus (s : State) : Result := .next (respond (statusWord s) s)

/-- RD_CNT (R263). -/
def execRdCnt (s : State) : Result := .next (respond s.cnt s)

/-- RD_DIN (R264). -/
def execRdDin (s : State) : Result := .next (respond 0#32 s)

/-- RD_RSVD, slots 10 and 11 (R266). -/
def execRdRsvd1011 (_slot : Slot) (s : State) : Result := .next (respond 0#32 s)

/-- RD_RSVD, slots 12 to 15 (R266). -/
def execRdRsvd1215 (_slot : Slot) (s : State) : Result := .next (respond 0#32 s)

end Sys2Proof.Machine
end

