-- ==== Sys2Proof/Machine/TypeCode.lean ====
section
/-! DEFINITION. The meanings of the type-code family (40_typecode.md): WR_TYPE, RD_TYPE, RD_TCPROP. -/

namespace Sys2Proof.Machine

/-- WR_TYPE (R138). -/
def execWrType (data : Word) (s : State) : Result :=
  .next (writeUnlessOwned (fun s => { s with typeCode := data }) s)

/-- RD_TYPE (R139). -/
def execRdType (s : State) : Result := .next (respond s.typeCode s)

/-- RD_TCPROP (R137). -/
def execRdTcprop (s : State) : Result := .next (respond (tcpropWord s.typeCode) s)

end Sys2Proof.Machine
end

