-- ==== Sys2Proof/Machine/Dispatch.lean ====
section
/-! DEFINITION. One arm per constructor of Instr, each a direct call of the instruction's meaning (R272). -/

namespace Sys2Proof.Machine

def exec (i : Instr) (s : State) : Host.Outcome State Fault Refusal :=
  match i with
  -- commands (R103)
  | .cmdCrcInit => Sys2Proof.Machine.execCmdCrcInit s
  | .cmdCrcEnd => Sys2Proof.Machine.execCmdCrcEnd s
  | .cmdEncStart => Sys2Proof.Machine.execCmdEncStart s
  | .cmdDecStart => Sys2Proof.Machine.execCmdDecStart s
  | .cmdDecEnd => Sys2Proof.Machine.execCmdDecEnd s
  | .cmdAbort => Sys2Proof.Machine.execCmdAbort s
  | .cmdClear => Sys2Proof.Machine.execCmdClear s
  | .cmdRsvd data => Sys2Proof.Machine.execCmdRsvd data s
  -- writes of the other slots (R104)
  | .wrStatus data => Sys2Proof.Machine.execWrStatus data s
  | .wrType data => Sys2Proof.Machine.execWrType data s
  | .wrLen data => Sys2Proof.Machine.execWrLen data s
  | .wrTcprop data => Sys2Proof.Machine.execWrTcprop data s
  | .wrCrcState data => Sys2Proof.Machine.execWrCrcState data s
  | .wrCrcOut data => Sys2Proof.Machine.execWrCrcOut data s
  | .wrCrcRx data => Sys2Proof.Machine.execWrCrcRx data s
  | .wrCnt data => Sys2Proof.Machine.execWrCnt data s
  | .wrDin data => Sys2Proof.Machine.execWrDin data s
  | .wrRsvd1011 slot data => Sys2Proof.Machine.execWrRsvd1011 slot data s
  | .wrRsvd1215 slot data => Sys2Proof.Machine.execWrRsvd1215 slot data s
  -- reads (R104)
  | .rdCmd => Sys2Proof.Machine.execRdCmd s
  | .rdStatus => Sys2Proof.Machine.execRdStatus s
  | .rdType => Sys2Proof.Machine.execRdType s
  | .rdLen => Sys2Proof.Machine.execRdLen s
  | .rdTcprop => Sys2Proof.Machine.execRdTcprop s
  | .rdCrcState => Sys2Proof.Machine.execRdCrcState s
  | .rdCrcOut => Sys2Proof.Machine.execRdCrcOut s
  | .rdCrcRx => Sys2Proof.Machine.execRdCrcRx s
  | .rdCnt => Sys2Proof.Machine.execRdCnt s
  | .rdDin => Sys2Proof.Machine.execRdDin s
  | .rdRsvd1011 slot => Sys2Proof.Machine.execRdRsvd1011 slot s
  | .rdRsvd1215 slot => Sys2Proof.Machine.execRdRsvd1215 slot s

end Sys2Proof.Machine
end

