-- ==== Sys2Proof/Machine/Step.lean ====
section
/-! DEFINITION. One step of the machine: the block takes the next thing the host has issued (R76, R81, R272). CRCFC has no
program counter and fetches nothing (R32, R83); its next instruction is the oldest transaction not yet taken. -/

namespace Sys2Proof.Machine

/-- One step. With nothing issued the block waits, unchanged (R339; log entry 3). A transaction is performed completely
(R76). The reset signal is taken between transactions (R330). -/
def step (s : State) : Host.Outcome State Fault Refusal :=
  match s.inputs with
  | [] => .next s
  | .rst :: rest => .next (applyReset (takeInput rest s))
  | .txn w :: rest => exec (decode w) (takeInput rest s)

/-- The state in which the host's next transaction is the T word in the low `nbits` bits of `w`, so that the next step
runs exactly it. A number wider than format T is no transaction and leaves the state as it is (log entries 1, 9). -/
def State.withFetchWord (s : State) (nbits w : Nat) : State :=
  match tWordOfNat (w % 2 ^ nbits) with
  | .ok t => issueFirst t s
  | .error _ => s

end Sys2Proof.Machine
end

