-- ==== Sys2Proof/Machine/Frame.lean ====
section
/-! DEFINITION. The wire format as functions of byte sequences: the frame of a type code and a payload (R78), a chunk, and
the function a decode computes over a whole input (R228). No step of the machine calls these; statements compare the
machine with them. -/

namespace Sys2Proof.Machine

/-- `s[i..j]`, the bytes at indices `i` to `j - 1` (R9). -/
def slice (s : List Byte) (i j : Nat) : List Byte := (s.take j).drop i

/-- The source's Chunk (R54). -/
structure Chunk where
  /-- The payload length. -/
  length : Word
  /-- The four type-code bytes in wire order. -/
  typeBytes : List Byte
  /-- The payload. -/
  payload : List Byte
  /-- The checksum field. -/
  checksum : Word
  deriving DecidableEq, Repr

/-- The length of a payload as the length field holds it. -/
def lengthWord (p : List Byte) : Word := BitVec.ofNat 32 p.length

/-- The bytes of a frame before its checksum field. -/
def frameBody (t : Word) (p : List Byte) : List Byte := be32 (lengthWord p) ++ typeBytes t ++ p

/-- The frame of a type code, held as in TYPE, and a payload (R78, R190). -/
def frame (t : Word) (p : List Byte) : List Byte :=
  frameBody t p ++ be32 (checksum (typeBytes t ++ p))

/-- The chunk whose frame `frame t p` is (R54, R229). -/
def chunkOf (t : Word) (p : List Byte) : Chunk where
  length := lengthWord p
  typeBytes := typeBytes t
  payload := p
  checksum := checksum (typeBytes t ++ p)

/-- `parse(s)` (R228): the chunk at the start of an input, or the error, with the checks in frame order. -/
def parse (s : List Byte) : Except ErrCode Chunk :=
  if s.length < 8 then .error .truncatedInput
  else
    let t := slice s 4 8
    if !t.all alpha then .error .invalidTypeCode
    else
      let l := (fromBE32 (slice s 0 4)).toNat
      if s.length < 12 + l then .error .truncatedInput
      else
        let payload := slice s 8 (8 + l)
        let c := fromBE32 (slice s (8 + l) (12 + l))
        if c ≠ checksum (t ++ payload) then .error .checksumMismatch
        else .ok { length := fromBE32 (slice s 0 4), typeBytes := t, payload := payload, checksum := c }

/-- Flip bit `k` of byte `i` (R230). -/
def flipBit (s : List Byte) (i k : Nat) : List Byte := s.modify i (· ^^^ (1#8 <<< k))

end Sys2Proof.Machine
end

