-- ==== Sys2Proof/Machine/Procedures.lean ====
section
/-! DEFINITION. The host's procedures (R140, R141, R169, R196, R227), as programs that issue transactions to the block,
let it perform each by its step, and look only at what reads return (log entry 12). -/

namespace Sys2Proof.Machine

/-! ## Issuing transactions -/

/-- Issue one transaction and let the block perform it; absent if the block stopped. -/
def hostSend (w : TWord) (s : State) : Option State :=
  match step (issueFirst w s) with
  | .next t => some t
  | .fault _ => none
  | .refused _ => none

/-- Issue transactions in order. -/
def hostSendAll : List TWord → State → Option State
  | [], s => some s
  | w :: ws, s => (hostSend w s).bind (hostSendAll ws)

/-- Read a slot: the value returned, and the state after. -/
def hostRead (slot : Slot) (s : State) : Option (Word × State) :=
  (hostSend (tRead slot) s).bind fun t => t.response.map fun v => (v, t)

/-- `din b` (R108). -/
def dinWord (b : Byte) : TWord := encode (.wrDin (zext32 b))

/-! ## What the host sees in STATUS (R36) -/

/-- STATUS.MODE = DEC. -/
def statusIsDec (status : Word) : Bool := status.extractLsb' 0 2 = 3

/-- STATUS.DONE. -/
def statusDone (status : Word) : Bool := status.getLsbD 8

/-- STATUS.ERR, as the error it names. -/
def statusErr (status : Word) : ErrCode :=
  match (status.extractLsb' 12 4).toNat with
  | 1 => .invalidTypeCode
  | 2 => .checksumMismatch
  | 3 => .truncatedInput
  | _ => .none

/-! ## The procedures -/

/-- H_TC_FROM_BYTES (R140): the type code, held as in TYPE, or `InvalidTypeCode`. -/
def hTcFromBytes (b0 b1 b2 b3 : Byte) (s : State) : Option (Except ErrCode Word × State) :=
  let t := fromBE32 [b0, b1, b2, b3]
  (hostSend (encode (.wrType t)) s).bind fun s1 =>
    (hostRead 4 s1).map fun (v, s2) => (if v.getLsbD 0 then .ok t else .error .invalidTypeCode, s2)

/-- H_TC_FROM_TEXT (R141): a text shorter than 4 bytes is refused with no transaction issued. -/
def hTcFromText (text : List Byte) (s : State) : Option (Except ErrCode Word × State) :=
  match text with
  | b0 :: b1 :: b2 :: b3 :: _ => hTcFromBytes b0 b1 b2 b3 s
  | _ => some (.error .invalidTypeCode, s)

/-- The transactions of H_CHECKSUM before the read (R169). -/
def checksumTransactions (bytes : List Byte) : List TWord := encode .cmdCrcInit :: bytes.map dinWord

/-- H_CHECKSUM (R169), without its optional CRC_END: the value read from CRC_OUT. -/
def hChecksum (bytes : List Byte) (s : State) : Option (Word × State) :=
  (hostSendAll (checksumTransactions bytes) s).bind (hostRead 6)

/-- The transactions of H_ENCODE (R196), for a type code held as in TYPE. -/
def encodeTransactions (t : Word) (p : List Byte) : List TWord :=
  encode (.wrType t) :: encode (.wrLen (lengthWord p)) :: encode .cmdEncStart :: p.map dinWord

/-- H_ENCODE (R196): the bytes emitted during the procedure, and the state after. -/
def hEncode (t : Word) (p : List Byte) (s : State) : Option (List Byte × State) :=
  (hostSendAll (encodeTransactions t p) s).map fun u => (u.out.drop s.out.length, u)

/-- The loop of H_PARSE (R227): write bytes to DIN while STATUS.MODE = DEC; how many were written, and the state after. -/
def feedWhileDec : List Byte → State → Option (Nat × State)
  | [], s => some (0, s)
  | b :: bs, s =>
    (hostRead 1 s).bind fun (status, s1) =>
      if statusIsDec status then
        (hostSend (dinWord b) s1).bind fun s2 => (feedWhileDec bs s2).map fun (n, u) => (n + 1, u)
      else some (0, s1)

/-- The end of input in H_PARSE (R227): DEC_END if STATUS.MODE is still DEC. -/
def endOfInput (s : State) : Option State :=
  (hostRead 1 s).bind fun (status, s1) =>
    if statusIsDec status then hostSend (encode .cmdDecEnd) s1 else some s1

/-- What H_PARSE reports (R227). -/
structure ParseReport where
  /-- The chunk and the number of bytes consumed, or the error. -/
  result : Except ErrCode (Chunk × Nat)
  /-- How many bytes were written to DIN. -/
  written : Nat
  /-- The state after. -/
  final : State

/-- H_PARSE (R227): the source's `Chunk.parse` over the host's remaining input. -/
def hParse (input : List Byte) (s : State) : Option ParseReport :=
  (hostSend (encode .cmdDecStart) s).bind fun s0 =>
  (feedWhileDec input s0).bind fun (written, s1) =>
  (endOfInput s1).bind fun s2 =>
  (hostRead 1 s2).bind fun (status, s3) =>
  if statusDone status then
    (hostRead 3 s3).bind fun (l, s4) =>
    (hostRead 2 s4).bind fun (t, s5) =>
    (hostRead 7 s5).map fun (c, s6) =>
      { result := .ok ({ length := l, typeBytes := typeBytes t, payload := slice input 8 (8 + l.toNat), checksum := c },
          12 + l.toNat)
        written := written
        final := s6 }
  else some { result := .error (statusErr status), written := written, final := s3 }

end Sys2Proof.Machine
end

