-- ==== Sys2Proof/Safety.lean ====
section
/-! DEFINITION. The terms statements use about runs: which transactions are reads, start commands and protocol violations,
what the twelve elements of two states have in common, and the invariant of the states runs reach. -/

namespace Sys2Proof.Machine

/-! ## Kinds of transactions -/

/-- A register read. -/
def isRead : Instr → Bool
  | .rdCmd | .rdStatus | .rdType | .rdLen | .rdTcprop | .rdCrcState | .rdCrcOut | .rdCrcRx | .rdCnt | .rdDin
  | .rdRsvd1011 _ | .rdRsvd1215 _ => true
  | .cmdCrcInit | .cmdCrcEnd | .cmdEncStart | .cmdDecStart | .cmdDecEnd | .cmdAbort | .cmdClear | .cmdRsvd _
  | .wrStatus _ | .wrType _ | .wrLen _ | .wrTcprop _ | .wrCrcState _ | .wrCrcOut _ | .wrCrcRx _ | .wrCnt _ | .wrDin _
  | .wrRsvd1011 _ _ | .wrRsvd1215 _ _ => false

/-- A start command: CRC_INIT, ENC_START or DEC_START (R336). -/
def isStart : Instr → Bool
  | .cmdCrcInit | .cmdEncStart | .cmdDecStart => true
  | .cmdCrcEnd | .cmdDecEnd | .cmdAbort | .cmdClear | .cmdRsvd _
  | .wrStatus _ | .wrType _ | .wrLen _ | .wrTcprop _ | .wrCrcState _ | .wrCrcOut _ | .wrCrcRx _ | .wrCnt _ | .wrDin _
  | .wrRsvd1011 _ _ | .wrRsvd1215 _ _
  | .rdCmd | .rdStatus | .rdType | .rdLen | .rdTcprop | .rdCrcState | .rdCrcOut | .rdCrcRx | .rdCnt | .rdDin
  | .rdRsvd1011 _ | .rdRsvd1215 _ => false

/-- A write to a read-only slot (R265) or to a reserved slot (R266), or a reserved command (R267). -/
def namesNoOperation : Instr → Bool
  | .cmdRsvd _ | .wrStatus _ | .wrTcprop _ | .wrCrcState _ | .wrCrcOut _ | .wrCrcRx _ | .wrCnt _
  | .wrRsvd1011 _ _ | .wrRsvd1215 _ _ => true
  | .cmdCrcInit | .cmdCrcEnd | .cmdEncStart | .cmdDecStart | .cmdDecEnd | .cmdAbort | .cmdClear
  | .wrType _ | .wrLen _ | .wrDin _
  | .rdCmd | .rdStatus | .rdType | .rdLen | .rdTcprop | .rdCrcState | .rdCrcOut | .rdCrcRx | .rdCnt | .rdDin
  | .rdRsvd1011 _ | .rdRsvd1215 _ => false

/-- The protocol violations, exactly as R304 lists them. -/
def isViolation (i : Instr) (s : State) : Prop :=
  ((∃ data, i = .wrDin data) ∧ s.mode = .idle)
    ∨ ((∃ data, i = .wrType data ∨ i = .wrLen data) ∧ (s.mode = .enc ∨ s.mode = .dec))
    ∨ (i = .cmdCrcEnd ∧ s.mode ≠ .crc)
    ∨ (i = .cmdDecEnd ∧ s.mode ≠ .dec)
    ∨ namesNoOperation i = true

/-! ## Comparing states -/

/-- The twelve elements of R33 agree. -/
structure State.SameElements (s t : State) : Prop where
  mode : s.mode = t.mode
  phase : s.phase = t.phase
  idx : s.idx = t.idx
  done : s.done = t.done
  seqErr : s.seqErr = t.seqErr
  err : s.err = t.err
  typeCode : s.typeCode = t.typeCode
  len : s.len = t.len
  crcState : s.crcState = t.crcState
  crcRx : s.crcRx = t.crcRx
  cnt : s.cnt = t.cnt
  out : s.out = t.out

/-! ## The invariant -/

/-- CRC_STATE covers the type bytes and as many payload bytes as CNT counts, and `p` are such bytes (R190, R194, R223). -/
def State.covers (s : State) (p : List Byte) : Prop :=
  p.length = s.cnt.toNat ∧ s.crcState = crcFold crcInitial (typeBytes s.typeCode ++ p)

/-- Decoding a header (R39, R221): IDX bytes have been taken, the length bytes first, and CRC_STATE covers exactly the type
bytes among them. -/
structure State.InHeader (s : State) : Prop where
  cnt : s.cnt = 0
  crcRx : s.crcRx = 0
  len : s.len.toNat < 2 ^ (8 * s.idx.toNat)
  typeCode : s.typeCode.toNat < 2 ^ (8 * (s.idx.toNat - 4))
  crcState : s.crcState = crcFold crcInitial ((typeBytes s.typeCode).drop (8 - s.idx.toNat))

/-- The invariant of the states that runs reach: what R38, R39, R194, R198, R222, R223, R224 and R336 say of a state in
which an operation is in progress, and what R40 and R42 say of its outcome. -/
structure State.Inv (s : State) : Prop where
  /-- DONE and an error code exclude each other (R40, R300). -/
  outcome : s.done = true → s.err = .none
  /-- While an operation is in progress DONE and ERR are 0 (R336). -/
  busy : s.mode ≠ .idle → s.done = false ∧ s.err = .none
  /-- In CRC mode (R38, R39, R164). -/
  crc : s.mode = .crc → s.phase = .hdr ∧ s.idx = 0
  /-- In ENC mode (R38, R39, R194). -/
  enc : s.mode = .enc → s.phase = .pay ∧ s.idx = 0 ∧ s.cnt < s.len ∧ tcAlpha s.typeCode = true
  /-- In ENC mode OUT ends with the frame as far as it has got, and CRC_STATE covers its type and payload (R194, R198). -/
  encOut : s.mode = .enc → ∃ before p, s.out = before ++ (be32 s.len ++ typeBytes s.typeCode ++ p) ∧ s.covers p
  /-- In DEC mode, header (R221). -/
  decHdr : s.mode = .dec → s.phase = .hdr → s.InHeader
  /-- In DEC mode, payload (R222, R223). -/
  decPay : s.mode = .dec → s.phase = .pay →
    s.idx = 0 ∧ s.cnt < s.len ∧ s.crcRx = 0 ∧ tcAlpha s.typeCode = true ∧ ∃ p, s.covers p
  /-- In DEC mode, trailer (R222, R223, R224). -/
  decTrl : s.mode = .dec → s.phase = .trl →
    s.idx < 4 ∧ s.cnt = s.len ∧ s.crcRx.toNat < 2 ^ (8 * s.idx.toNat) ∧ tcAlpha s.typeCode = true ∧ ∃ p, s.covers p

end Sys2Proof.Machine
end

