-- ==== Sys2Proof/Certificates/Slice0/Obligations.lean ====
section
/-! DEFINITION. The statements about the model, for the provers. Each docstring names the rule of spec/ it formalises.
Where a statement's next state is written as an update of the state before, every element not named there is unchanged:
that update is the instruction's frame. The value a read returns stands in the model's field `response` (log entry 2), and
what the host has issued in `inputs` (log entry 1); both are the model's, not the spec's. -/

open Sys2Proof Sys2Proof.Machine

/-! ## Reset and the step -/

/-- R52: the value of every state element after reset, and what STATUS, TCPROP and CRC_OUT then read. -/
def Obligations.ResetGivesEveryElementItsValue : Prop :=
  State.reset.mode = .idle ∧ State.reset.phase = .hdr ∧ State.reset.idx = 0 ∧ State.reset.done = false
    ∧ State.reset.seqErr = false ∧ State.reset.err = .none ∧ State.reset.typeCode = 0x00000000
    ∧ State.reset.len = 0x00000000 ∧ State.reset.crcState = 0xFFFFFFFF ∧ State.reset.crcRx = 0x00000000
    ∧ State.reset.cnt = 0x00000000 ∧ State.reset.out = []
    ∧ statusWord State.reset = 0x00000000 ∧ tcpropWord State.reset.typeCode = 0x00000000
    ∧ crcOutWord State.reset = 0x00000000

/-- R330: the reset signal, taken in any state, sets every element to its reset value; so OUT starts empty and no error is
recorded, whatever operation was in progress. -/
def Obligations.ResetSignalSetsEveryElement : Prop :=
  ∀ (s : State) (rest : List HostEvent), s.inputs = .rst :: rest →
    ∃ t, step s = .next t ∧ t.SameElements State.reset

/-- What a step does (44_control.md section 5, R272 and R76): the block performs the oldest transaction the host has
issued, as its T word decodes. The waiting of a block with nothing issued (log entry 3), the queue left by a reset signal
(log entry 4) and the two fields of the port (log entries 1, 2) are the model's own. -/
def Obligations.StepPerformsDecodedTransaction : Prop :=
  ∀ s : State,
    (s.inputs = [] → step s = .next s)
    ∧ (∀ rest, s.inputs = .rst :: rest → step s = .next { State.reset with inputs := rest })
    ∧ (∀ w rest, s.inputs = .txn w :: rest →
        step s = exec (decode w) { s with inputs := rest, response := none })
    ∧ (∀ i rest, i.wf = true → s.inputs = .txn (encode i) :: rest →
        step s = exec i { s with inputs := rest, response := none })

/-- The next step after `withFetchWord` runs the placed transaction, whether the table's width is given as 37 bits or as
five whole bytes (the model's own loading of a program, log entry 1). -/
def Obligations.FetchWordRunsItsTransaction : Prop :=
  ∀ (s : State) (i : Instr), i.wf = true →
    step (s.withFetchWord 37 (encode i).toNat) = exec i { s with response := none }
    ∧ step (s.withFetchWord 40 (encode i).toNat) = exec i { s with response := none }

/-- 44_control.md section 5 (the spec's inference in R272, "no outcome is a fault or a stuck state"): every T word in every
state has a next state, and so has every step. -/
def Obligations.EveryStepHasANextState : Prop :=
  (∀ (i : Instr) (s : State), ∃ t, exec i s = .next t) ∧ ∀ s : State, ∃ t, step s = .next t

/-- 20_memory.md sections 3 and 5 (R76, R81): a run over transactions the host has queued performs them one at a time in
the order issued, with the same outcome as issuing each one when the block has finished the one before. -/
def Obligations.QueuedTransactionsRunInOrder : Prop :=
  ∀ (ws : List TWord) (s : State),
    ∃ t, hostSendAll ws s = some t
      ∧ Host.Core.run Sys2Proof.core ws.length { s with inputs := ws.map HostEvent.txn ++ s.inputs } = .next t
      ∧ t.inputs = s.inputs

/-! ## Encoding -/

/-- Words of 95_test_vectors.md section 2.5 and of its programs decode to the transactions they stand for there. -/
def Obligations.VectorWordsDecode : Prop :=
  decode 0x1000000003 = .cmdEncStart ∧ decode 0x1000000000 = .cmdRsvd 0 ∧ decode 0x1000000101 = .cmdRsvd 0x101
    ∧ decode 0x1272755374 = .wrType 0x72755374 ∧ decode 0x1300000005 = .wrLen 5
    ∧ decode 0x1900000149 = .wrDin 0x149 ∧ decode 0x1500000000 = .wrCrcState 0
    ∧ decode 0x1F00000001 = .wrRsvd1215 15 1 ∧ decode 0x0C00000000 = .rdRsvd1215 12
    ∧ decode 0x0600000000 = .rdCrcOut ∧ decode 0x01DEADBEEF = .rdStatus

/-- R103: the command a CMD write selects, by its whole data word. -/
def Obligations.CommandWordSelectsCommand : Prop :=
  ∀ w : TWord, w.isWrite = true → w.addr = 0 →
    (w.data = 0x00000001 → decode w = .cmdCrcInit)
    ∧ (w.data = 0x00000002 → decode w = .cmdCrcEnd)
    ∧ (w.data = 0x00000003 → decode w = .cmdEncStart)
    ∧ (w.data = 0x00000004 → decode w = .cmdDecStart)
    ∧ (w.data = 0x00000005 → decode w = .cmdDecEnd)
    ∧ (w.data = 0x00000006 → decode w = .cmdAbort)
    ∧ (w.data = 0x00000007 → decode w = .cmdClear)
    ∧ (w.data = 0 ∨ 7 < w.data → decode w = .cmdRsvd w.data)

/-- R104, R107: the transaction selected by rw and addr, and for a write to CMD by data; a read's data field is not
decoded. -/
def Obligations.SlotSelectsTransaction : Prop :=
  ∀ w : TWord,
    (w.isWrite = true →
      (w.addr = 0 → decode w = if w.data = 1 then .cmdCrcInit else if w.data = 2 then .cmdCrcEnd
        else if w.data = 3 then .cmdEncStart else if w.data = 4 then .cmdDecStart else if w.data = 5 then .cmdDecEnd
        else if w.data = 6 then .cmdAbort else if w.data = 7 then .cmdClear else .cmdRsvd w.data)
      ∧ (w.addr = 1 → decode w = .wrStatus w.data) ∧ (w.addr = 2 → decode w = .wrType w.data)
      ∧ (w.addr = 3 → decode w = .wrLen w.data) ∧ (w.addr = 4 → decode w = .wrTcprop w.data)
      ∧ (w.addr = 5 → decode w = .wrCrcState w.data) ∧ (w.addr = 6 → decode w = .wrCrcOut w.data)
      ∧ (w.addr = 7 → decode w = .wrCrcRx w.data) ∧ (w.addr = 8 → decode w = .wrCnt w.data)
      ∧ (w.addr = 9 → decode w = .wrDin w.data)
      ∧ (w.addr = 10 ∨ w.addr = 11 → decode w = .wrRsvd1011 w.addr w.data)
      ∧ (12 ≤ w.addr → decode w = .wrRsvd1215 w.addr w.data))
    ∧ (w.isWrite = false →
      (w.addr = 0 → decode w = .rdCmd) ∧ (w.addr = 1 → decode w = .rdStatus) ∧ (w.addr = 2 → decode w = .rdType)
      ∧ (w.addr = 3 → decode w = .rdLen) ∧ (w.addr = 4 → decode w = .rdTcprop)
      ∧ (w.addr = 5 → decode w = .rdCrcState) ∧ (w.addr = 6 → decode w = .rdCrcOut)
      ∧ (w.addr = 7 → decode w = .rdCrcRx) ∧ (w.addr = 8 → decode w = .rdCnt) ∧ (w.addr = 9 → decode w = .rdDin)
      ∧ (w.addr = 10 ∨ w.addr = 11 → decode w = .rdRsvd1011 w.addr)
      ∧ (12 ≤ w.addr → decode w = .rdRsvd1215 w.addr))

/-- Decoding the word of a well-formed instruction gives it back, with every operand at every value (30_encoding.md
sections 1 to 3). -/
def Obligations.DecodeEncodeAgree : Prop :=
  ∀ i : Instr, i.wf = true → decode (encode i) = i

/-- Every T word decodes to a well-formed instruction, whose word is that T word, or for a read its canonical form with
data 0 (30_encoding.md sections 1 and 4, R101 and R107). -/
def Obligations.EncodeDecodeIsCanonical : Prop :=
  ∀ w : TWord, (decode w).wf = true
    ∧ (w.isWrite = true → encode (decode w) = w)
    ∧ (w.isWrite = false → encode (decode w) = w &&& 0x1F00000000)

/-- 30_encoding.md section 3 (the spec's inference in R105): the opcode table selects exactly one row for every T word, the
row of the instruction the word decodes to; the only other row that can accept the word is WR_CMD_RSVD (row 7), for one of
the seven command words. -/
def Obligations.EveryWordSelectsOneRow : Prop :=
  ∀ w : TWord,
    (∃ r, opcodeTable[(decode w).tableRow]? = some r ∧ selectedRow w = some r)
    ∧ ∀ (k : Nat) (r : OpcodeRow), opcodeTable[k]? = some r → r.accepts w = true →
        k = (decode w).tableRow ∨ (k = 7 ∧ w.isWrite = true ∧ w.addr = 0 ∧ 1 ≤ w.data ∧ w.data ≤ 7)

/-! ## Byte order and type codes -/

/-- 00_scope.md section 5 (R9): BE32 and fromBE32 are inverse to each other, and BE32 puts the most significant byte
first. -/
def Obligations.BigEndianWordsRoundTrip : Prop :=
  (∀ v : Word, fromBE32 (be32 v) = v ∧ (be32 v).length = 4
      ∧ v.toNat = (v.extractLsb' 24 8).toNat * 2 ^ 24 + (v.extractLsb' 16 8).toNat * 2 ^ 16
          + (v.extractLsb' 8 8).toNat * 2 ^ 8 + (v.extractLsb' 0 8).toNat)
    ∧ ∀ b0 b1 b2 b3 : Byte, be32 (fromBE32 [b0, b1, b2, b3]) = [b0, b1, b2, b3]
        ∧ (fromBE32 [b0, b1, b2, b3]).toNat = b0.toNat * 2 ^ 24 + b1.toNat * 2 ^ 16 + b2.toNat * 2 ^ 8 + b3.toNat

/-- 40_typecode.md section 1 (R130, whose code ranges the spec supplies from general knowledge): which bytes are upper case,
lower case and alphabetic. -/
def Obligations.ByteClassesAreAsciiRanges : Prop :=
  ∀ b : Byte,
    (upper b = true ↔ 0x41 ≤ b.toNat ∧ b.toNat ≤ 0x5A)
    ∧ (lower b = true ↔ 0x61 ≤ b.toNat ∧ b.toNat ≤ 0x7A)
    ∧ (alpha b = true ↔ upper b = true ∨ lower b = true)
    ∧ ¬ (upper b = true ∧ lower b = true)

/-- R132, R133, R134, R135, R137: every bit of the word a read of TCPROP returns, for any value of TYPE and in any mode; the
read changes nothing; TYPE = "RuSt" reads 0x0000003B. -/
def Obligations.TcpropReadsTypeCodeProperties : Prop :=
  ∀ s : State, ∃ v : Word, exec .rdTcprop s = .next { s with response := some v }
    ∧ v.getLsbD 0 = (alpha (s.typeCode.extractLsb' 24 8) && alpha (s.typeCode.extractLsb' 16 8)
        && alpha (s.typeCode.extractLsb' 8 8) && alpha (s.typeCode.extractLsb' 0 8))
    ∧ v.getLsbD 1 = upper (s.typeCode.extractLsb' 24 8)
    ∧ v.getLsbD 2 = upper (s.typeCode.extractLsb' 16 8)
    ∧ v.getLsbD 3 = upper (s.typeCode.extractLsb' 8 8)
    ∧ v.getLsbD 4 = lower (s.typeCode.extractLsb' 0 8)
    ∧ v.getLsbD 5 = (v.getLsbD 0 && upper (s.typeCode.extractLsb' 8 8))
    ∧ (∀ k, 6 ≤ k → v.getLsbD k = false)
    ∧ (s.typeCode = 0x52755374 → v = 0x0000003B)

/-- R138: a write of TYPE stores the data whole in IDLE and CRC mode and is a protocol violation in ENC and DEC mode; a
value that is no type code is stored as written ("Ru1t" then reads TCPROP = 0x00000012). -/
def Obligations.WriteTypeStoresUnlessOwned : Prop :=
  decode 0x1252753174 = .wrType 0x52753174
    ∧ ∀ (s : State) (data : Word),
      ((s.mode = .enc ∨ s.mode = .dec) → exec (.wrType data) s = .next { s with seqErr := true })
      ∧ ((s.mode = .idle ∨ s.mode = .crc) → exec (.wrType data) s = .next { s with typeCode := data })
      ∧ (s.mode = .idle → ∃ t, exec (.wrType 0x52753174) s = .next t
          ∧ exec .rdTcprop t = .next { t with response := some 0x00000012#32 })

/-- R140, R141: the host procedures for the source's factories. From bytes, in IDLE or CRC mode: the type code if its four
bytes are letters, else InvalidTypeCode, with STATUS unchanged. From text: a text shorter than 4 bytes is InvalidTypeCode with
no transaction issued, and only the first four bytes of a longer one are consulted. -/
def Obligations.TypeCodeFactoriesByHost : Prop :=
  (∀ (b0 b1 b2 b3 : Byte) (s : State), (s.mode = .idle ∨ s.mode = .crc) →
    ∃ t, hTcFromBytes b0 b1 b2 b3 s = some
        (if alpha b0 && alpha b1 && alpha b2 && alpha b3 then .ok (fromBE32 [b0, b1, b2, b3])
          else .error .invalidTypeCode, t)
      ∧ t.typeCode = fromBE32 [b0, b1, b2, b3] ∧ statusWord t = statusWord s)
  ∧ (∀ (text : List Byte) (s : State), text.length < 4 →
      hTcFromText text s = some (.error .invalidTypeCode, s))
  ∧ (∀ (b0 b1 b2 b3 : Byte) (more : List Byte) (s : State),
      hTcFromText (b0 :: b1 :: b2 :: b3 :: more) s = hTcFromBytes b0 b1 b2 b3 s)

/-! ## Register reads -/

/-- The value every register read returns (R137, R139, R167, R168, R192, R226, R262, R263, R264, R266), in every state; a
read changes no element and emits nothing, and a second one returns the same (R77). -/
def Obligations.ReadsReturnTheirRegisterAndChangeNothing : Prop :=
  ∀ (s : State) (slot : Slot),
    exec .rdCmd s = .next { s with response := some 0#32 }
    ∧ exec .rdStatus s = .next { s with response := some (statusWord s) }
    ∧ exec .rdType s = .next { s with response := some s.typeCode }
    ∧ exec .rdLen s = .next { s with response := some s.len }
    ∧ exec .rdTcprop s = .next { s with response := some (tcpropWord s.typeCode) }
    ∧ exec .rdCrcState s = .next { s with response := some s.crcState }
    ∧ exec .rdCrcOut s = .next { s with response := some (s.crcState ^^^ 0xFFFFFFFF#32) }
    ∧ exec .rdCrcRx s = .next { s with response := some s.crcRx }
    ∧ exec .rdCnt s = .next { s with response := some s.cnt }
    ∧ exec .rdDin s = .next { s with response := some 0#32 }
    ∧ exec (.rdRsvd1011 slot) s = .next { s with response := some 0#32 }
    ∧ exec (.rdRsvd1215 slot) s = .next { s with response := some 0#32 }
    ∧ ∀ i t, isRead i = true → exec i s = .next t → s.SameElements t ∧ exec i t = .next t

/-- R36: where each field stands in the word a read of STATUS returns; every other bit reads 0; STATUS is read-only; at
reset it reads 0. -/
def Obligations.StatusFieldsStandWhereTheRuleSays : Prop :=
  (∀ s : State, ∃ v : Word, exec .rdStatus s = .next { s with response := some v }
    ∧ v.extractLsb' 0 2 = (match s.mode with | .idle => 0 | .crc => 1 | .enc => 2 | .dec => 3)
    ∧ v.extractLsb' 2 2 = (match s.phase with | .hdr => 0 | .pay => 1 | .trl => 2)
    ∧ v.extractLsb' 4 3 = s.idx
    ∧ v.getLsbD 7 = false
    ∧ v.getLsbD 8 = s.done
    ∧ v.getLsbD 9 = s.seqErr
    ∧ v.extractLsb' 10 2 = 0
    ∧ v.extractLsb' 12 4
        = (match s.err with | .none => 0 | .invalidTypeCode => 1 | .checksumMismatch => 2 | .truncatedInput => 3)
    ∧ v.extractLsb' 16 16 = 0)
  ∧ (∀ (s : State) (data : Word), exec (.wrStatus data) s = .next { s with seqErr := true })
  ∧ exec .rdStatus State.reset = .next { State.reset with response := some 0#32 }

/-- 10_state.md section 4 (R54): there is no hidden state. Two states that read alike through STATUS, TYPE, LEN, CRC_STATE,
CRC_RX, CNT and OUT agree in every element; and from such states every transaction leads to states that agree again and
returns the same value. -/
def Obligations.ReadableStateDeterminesBehaviour : Prop :=
  (∀ s t : State, statusWord s = statusWord t → s.typeCode = t.typeCode → s.len = t.len → s.crcState = t.crcState →
      s.crcRx = t.crcRx → s.cnt = t.cnt → s.out = t.out → s.SameElements t)
  ∧ ∀ (i : Instr) (s t s' t' : State), s.SameElements t → exec i s = .next s' → exec i t = .next t' →
      s'.SameElements t' ∧ (isRead i = true → s'.response = t'.response)

/-! ## CRC-32 -/

/-- The polynomial over GF(2) whose coefficient of x^i is bit i of a word. -/
noncomputable def Sys2Proof.Machine.polyOfWord (v : Word) : Polynomial (ZMod 2) :=
  ∑ i ∈ Finset.range 32, if v.getLsbD i then Polynomial.X ^ i else 0

/-- M(x) of R162: the bits of the sequence taken byte by byte, each byte least significant bit first, the first bit being
the coefficient of x^(8n-1). -/
noncomputable def Sys2Proof.Machine.messagePoly (s : List Byte) : Polynomial (ZMod 2) :=
  ∑ j ∈ Finset.range (8 * s.length),
    if (s.getD (j / 8) 0).getLsbD (j % 8) then Polynomial.X ^ (8 * s.length - 1 - j) else 0

/-- 41_crc.md section 1 (the statement of R162, which the spec supplies from general knowledge as equivalent to its byte
step): the remainder of x^32 M(x) + x^(8n) I(x) by G(x), as a word, reflected and complemented, is the checksum. -/
def Obligations.ChecksumIsPolynomialRemainder : Prop :=
  ∀ s : List Byte, ∃ r : Word,
    (Polynomial.X ^ 32 * messagePoly s + Polynomial.X ^ (8 * s.length) * polyOfWord 0xFFFFFFFF)
        %ₘ (Polynomial.X ^ 32 + polyOfWord 0x04C11DB7) = polyOfWord r
      ∧ checksum s = r.reverse ^^^ 0xFFFFFFFF#32

/-- R164: CRC_INIT, in every mode; after it CRC_OUT reads 0, and STATUS reads 0x00000001 unless SEQERR was set. -/
def Obligations.CrcInitStartsAccumulation : Prop :=
  decode 0x1000000001 = .cmdCrcInit
    ∧ ∀ s : State, ∃ t, exec .cmdCrcInit s = .next t
      ∧ t = { s with mode := .crc, phase := .hdr, idx := 0#3, crcState := 0xFFFFFFFF#32, cnt := 0#32, done := false, err := .none }
      ∧ (s.seqErr = false → exec .rdStatus t = .next { t with response := some 0x00000001#32 })
      ∧ exec .rdCrcOut t = .next { t with response := some 0x00000000#32 }

/-- R165: a DIN byte in CRC mode; CNT wraps modulo 2^32; data[31:8] has no effect; from CRC_INIT, byte 0x49 gives the
example's values. -/
def Obligations.CrcModeByteAccumulates : Prop :=
  ∀ (s : State) (data : Word), s.mode = .crc →
    exec (.wrDin data) s = .next { s with crcState := crc8 s.crcState (data.extractLsb' 0 8), cnt := s.cnt + 1#32 }
    ∧ (s.crcState = 0xFFFFFFFF → s.cnt = 0 → data.extractLsb' 0 8 = 0x49 →
        ∃ t, exec (.wrDin data) s = .next t ∧ t.crcState = 0x22FDE946 ∧ crcOutWord t = 0xDD0216B9 ∧ t.cnt = 1)
    ∧ (s.cnt = 0xFFFFFFFF → ∃ t, exec (.wrDin data) s = .next t ∧ t.cnt = 0 ∧ t.mode = .crc)

/-- R166: CRC_END in CRC mode returns to IDLE with DONE set, keeping CRC_STATE and CNT; in any other mode it is a protocol
violation; after CRC_INIT and "IEND" it leaves STATUS = 0x00000100 (SEQERR clear) and CRC_OUT = 0xAE426082. -/
def Obligations.CrcEndReturnsToIdle : Prop :=
  decode 0x1000000002 = .cmdCrcEnd
    ∧ ∀ s : State,
      (s.mode = .crc → exec .cmdCrcEnd s = .next { s with mode := .idle, done := true })
      ∧ (s.mode ≠ .crc → exec .cmdCrcEnd s = .next { s with seqErr := true })
      ∧ (s.seqErr = false →
          ∃ t, hostSendAll (encode .cmdCrcInit :: [0x49, 0x45, 0x4E, 0x44].map dinWord ++ [encode .cmdCrcEnd]) s = some t
            ∧ statusWord t = 0x00000100 ∧ crcOutWord t = 0xAE426082)

/-- 41_crc.md section 2 (the spec's inferences in R168 and R169): H_CHECKSUM over any sequence, from any state, reads its
checksum from CRC_OUT; CNT is the length modulo 2^32. The clause that MODE is still CRC afterwards is the model's choice,
not the spec's: R169 makes the final CRC_END optional, and the model's H_CHECKSUM leaves it out (log entry 12, DESIGN
CHOICE). -/
def Obligations.ChecksumProcedureReadsChecksum : Prop :=
  ∀ (bytes : List Byte) (s : State), ∃ t, hChecksum bytes s = some (checksum bytes, t)
    ∧ t.mode = .crc ∧ t.cnt = BitVec.ofNat 32 bytes.length ∧ t.out = s.out ∧ t.typeCode = s.typeCode ∧ t.len = s.len

/-- 41_crc.md section 2 (the spec's inference in R170): a sequence may be checksummed in pieces, with CRC_OUT read between
them. That more bytes can follow H_CHECKSUM of the first piece is the model's choice: its H_CHECKSUM leaves out the optional
CRC_END of R169 (log entry 12, DESIGN CHOICE), after which a byte would be discarded. -/
def Obligations.ChecksumIsIncremental : Prop :=
  ∀ (a b : List Byte) (s : State), ∃ t u, hChecksum a s = some (checksum a, t)
    ∧ (hostSendAll (b.map dinWord) t).bind (hostRead 6) = some (checksum (a ++ b), u)

/-! ## Frame encoder -/

/-- R191: a write of LEN stores the data whole in IDLE and CRC mode, for every value, and is a protocol violation in ENC and
DEC mode; `wr LEN, 5` makes LEN read 5. -/
def Obligations.WriteLenStoresUnlessOwned : Prop :=
  decode 0x1300000005 = .wrLen 5
    ∧ ∀ (s : State) (data : Word),
      ((s.mode = .enc ∨ s.mode = .dec) → exec (.wrLen data) s = .next { s with seqErr := true })
      ∧ ((s.mode = .idle ∨ s.mode = .crc) → exec (.wrLen data) s = .next { s with len := data })
      ∧ (s.mode = .idle → ∃ t, exec (.wrLen 5) s = .next t
          ∧ exec .rdLen t = .next { t with response := some 0x00000005#32 })

/-- R193: ENC_START in every mode. With a TYPE that is not four letters it fails and emits nothing. Otherwise it emits the
header and covers the type bytes, and with L = 0 it also inserts the checksum; TYPE = "IEND", LEN = 0 gives the example's
frame and STATUS. -/
def Obligations.EncStartEmitsHeader : Prop :=
  decode 0x1000000003 = .cmdEncStart
    ∧ ∀ s : State,
      (tcAlpha s.typeCode = false →
        exec .cmdEncStart s = .next { s with err := .invalidTypeCode, done := false, mode := .idle })
      ∧ (tcAlpha s.typeCode = true → s.len ≠ 0#32 →
        exec .cmdEncStart s = .next { s with
          crcState := crcFold 0xFFFFFFFF#32 (typeBytes s.typeCode), out := s.out ++ (be32 s.len ++ typeBytes s.typeCode),
          cnt := 0#32, phase := .pay, idx := 0#3, done := false, err := .none, mode := .enc })
      ∧ (tcAlpha s.typeCode = true → s.len = 0#32 →
        exec .cmdEncStart s = .next { s with
          crcState := crcFold 0xFFFFFFFF#32 (typeBytes s.typeCode),
          out := s.out ++ (be32 0#32 ++ typeBytes s.typeCode)
            ++ be32 (crcFold 0xFFFFFFFF#32 (typeBytes s.typeCode) ^^^ 0xFFFFFFFF#32),
          cnt := 0#32, phase := .trl, idx := 0#3, done := true, err := .none, mode := .idle })
      ∧ (s.typeCode = 0x49454E44 → s.len = 0#32 → s.seqErr = false →
        ∃ t, exec .cmdEncStart s = .next t
          ∧ t.out = s.out ++ [0x00, 0x00, 0x00, 0x00, 0x49, 0x45, 0x4E, 0x44, 0xAE, 0x42, 0x60, 0x82]
          ∧ statusWord t = 0x00000108)

/-- R194, R195: a DIN byte in ENC mode is emitted, covered and counted; the L-th one is followed by the checksum and the end
of the encode, after which CRC_OUT reads the inserted checksum, CNT = LEN and STATUS reads 0x00000108 (SEQERR clear). In
every state of the invariant ENC mode has CNT < LEN. TYPE "ruSt", LEN = 5 and byte 0x68 after ENC_START give the example's
values. The same end of the encode at ENC_START when L = 0. -/
def Obligations.EncModeByteIsEmittedAndCovered : Prop :=
  (∀ (s : State) (data : Word), s.mode = .enc →
    (s.cnt + 1#32 ≠ s.len →
      exec (.wrDin data) s = .next { s with
        out := s.out ++ [data.extractLsb' 0 8], crcState := crc8 s.crcState (data.extractLsb' 0 8), cnt := s.cnt + 1#32 })
    ∧ (s.cnt + 1#32 = s.len →
      exec (.wrDin data) s = .next { s with
        out := s.out ++ [data.extractLsb' 0 8] ++ be32 (crc8 s.crcState (data.extractLsb' 0 8) ^^^ 0xFFFFFFFF#32),
        crcState := crc8 s.crcState (data.extractLsb' 0 8), cnt := s.cnt + 1#32,
        phase := .trl, idx := 0#3, mode := .idle, done := true })
    ∧ (s.Inv → s.cnt < s.len)
    ∧ (s.Inv → s.seqErr = false → s.cnt + 1#32 = s.len → ∃ t, exec (.wrDin data) s = .next t
        ∧ t.cnt = t.len ∧ statusWord t = 0x00000108
        ∧ t.out = s.out ++ [data.extractLsb' 0 8] ++ be32 (crcOutWord t)))
  ∧ (∀ s : State, tcAlpha s.typeCode = true → s.len = 0#32 → s.seqErr = false →
      ∃ t, exec .cmdEncStart s = .next t ∧ t.cnt = t.len ∧ statusWord t = 0x00000108
        ∧ t.typeCode = s.typeCode ∧ t.len = s.len ∧ crcOutWord t = checksum (typeBytes s.typeCode)
        ∧ t.out = s.out ++ (be32 s.len ++ typeBytes s.typeCode) ++ be32 (crcOutWord t))
  ∧ ∀ s : State, s.mode = .idle →
      ∃ t, hostSendAll [encode (.wrType 0x72755374), encode (.wrLen 5), encode .cmdEncStart, dinWord 0x68] s = some t
        ∧ t.out = s.out ++ [0x00, 0x00, 0x00, 0x05, 0x72, 0x75, 0x53, 0x74, 0x68] ∧ t.cnt = 1 ∧ t.crcState = 0x80EE2E92

/-- 42_frame_encoder.md section 4 (the spec's guarantee R197, an inference): H_ENCODE from IDLE or CRC mode, for a type code
of four letters and any payload shorter than 2^32 bytes, emits exactly the frame and ends with DONE set. -/
def Obligations.EncodeEmitsExactlyTheFrame : Prop :=
  ∀ (t : Word) (p : List Byte) (s : State), tcAlpha t = true → p.length < 2 ^ 32 → (s.mode = .idle ∨ s.mode = .crc) →
    ∃ u, hEncode t p s = some (be32 (BitVec.ofNat 32 p.length) ++ typeBytes t ++ p ++ be32 (checksum (typeBytes t ++ p)), u)
      ∧ u.out = s.out ++ frame t p
      ∧ u.mode = .idle ∧ u.done = true ∧ u.err = .none ∧ u.phase = .trl
      ∧ u.typeCode = t ∧ u.len.toNat = p.length ∧ u.cnt = u.len ∧ crcOutWord u = checksum (typeBytes t ++ p)

/-- 42_frame_encoder.md section 4 (the spec's inference in R198): an encode in which only `k` payload bytes have been
written has emitted the first 8 + k bytes of the frame; ABORT or another start command leaves those bytes, with no checksum,
and DONE was not set. -/
def Obligations.AbandonedEncodeLeavesFramePrefix : Prop :=
  ∀ (t : Word) (p : List Byte) (k : Nat) (s : State), tcAlpha t = true → p.length < 2 ^ 32 → k < p.length →
    (s.mode = .idle ∨ s.mode = .crc) →
    ∃ u, hostSendAll ((encodeTransactions t p).take (3 + k)) s = some u
      ∧ u.out = s.out ++ (frame t p).take (8 + k) ∧ u.done = false ∧ u.mode = .enc ∧ u.cnt.toNat = k
      ∧ (∀ i v, i = .cmdAbort ∨ i = .cmdCrcInit ∨ i = .cmdDecStart → exec i u = .next v →
          v.out = u.out ∧ v.done = false)

/-! ## Frame decoder -/

/-- R220: DEC_START, in every mode; nothing is emitted; STATUS then reads 0x00000003 unless SEQERR was set, and LEN, TYPE,
CRC_RX and CNT read 0. -/
def Obligations.DecStartClearsTheDecoder : Prop :=
  decode 0x1000000004 = .cmdDecStart
    ∧ ∀ s : State, ∃ t, exec .cmdDecStart s = .next t
      ∧ t = { s with
          mode := .dec, phase := .hdr, idx := 0#3, len := 0#32, typeCode := 0#32, crcRx := 0#32, cnt := 0#32, crcState := 0xFFFFFFFF#32,
          done := false, err := .none }
      ∧ (s.seqErr = false → exec .rdStatus t = .next { t with response := some 0x00000003#32 })

/-- R221, R222: a header byte in DEC mode. Bytes 0 to 3 enter LEN and are not covered by the checksum; bytes 4 to 7 enter
TYPE and are; the 8th is followed by HEADER_CHECK. After DEC_START and four bytes LEN is those bytes, big-endian, so
00 00 00 05 gives LEN = 5 and IDX = 4; after eight TYPE is the last four. -/
def Obligations.HeaderByteEntersLengthOrType : Prop :=
  (∀ (s : State) (data : Word), s.mode = .dec → s.phase = .hdr →
    (s.idx < 4#3 →
      exec (.wrDin data) s = .next { s with
        len := (s.len <<< 8) ||| (data.extractLsb' 0 8).setWidth 32, idx := s.idx + 1#3 })
    ∧ (4#3 ≤ s.idx → s.idx < 7#3 →
      exec (.wrDin data) s = .next { s with
        typeCode := (s.typeCode <<< 8) ||| (data.extractLsb' 0 8).setWidth 32,
        crcState := crc8 s.crcState (data.extractLsb' 0 8), idx := s.idx + 1#3 })
    ∧ (s.idx = 7#3 →
      let t' := (s.typeCode <<< 8) ||| (data.extractLsb' 0 8).setWidth 32
      let c' := crc8 s.crcState (data.extractLsb' 0 8)
      (tcAlpha t' = false →
        exec (.wrDin data) s = .next { s with
          typeCode := t', crcState := c', idx := 0#3, err := .invalidTypeCode, done := false, mode := .idle })
      ∧ (tcAlpha t' = true → s.len = 0#32 →
        exec (.wrDin data) s = .next { s with typeCode := t', crcState := c', idx := 0#3, phase := .trl })
      ∧ (tcAlpha t' = true → s.len ≠ 0#32 →
        exec (.wrDin data) s = .next { s with typeCode := t', crcState := c', idx := 0#3, phase := .pay })))
  ∧ (∀ s : State, ∃ t, hostSendAll (encode .cmdDecStart :: [0x00, 0x00, 0x00, 0x05].map dinWord) s = some t
      ∧ t.len = 0x00000005 ∧ t.idx = 4)
  ∧ ∀ (l0 l1 l2 l3 t0 t1 t2 t3 : Byte) (s : State),
      (∃ u, hostSendAll (encode .cmdDecStart :: [l0, l1, l2, l3].map dinWord) s = some u
        ∧ u.len = fromBE32 [l0, l1, l2, l3] ∧ u.idx = 4)
      ∧ ∃ u, hostSendAll (encode .cmdDecStart :: [l0, l1, l2, l3, t0, t1, t2, t3].map dinWord) s = some u
        ∧ u.typeCode = fromBE32 [t0, t1, t2, t3]

/-- 43_frame_decoder.md section 1 and 20_memory.md section 2 (R221, R73): from any state, DEC_START and eight bytes leave the
length field in LEN and the type bytes in TYPE, both first byte most significant, with the checksum over the type bytes only,
and the decoder in the phase HEADER_CHECK chooses or failed. -/
def Obligations.HeaderIsAssembledBigEndian : Prop :=
  ∀ (l0 l1 l2 l3 t0 t1 t2 t3 : Byte) (s : State),
    ∃ u, hostSendAll (encode .cmdDecStart :: [l0, l1, l2, l3, t0, t1, t2, t3].map dinWord) s = some u
      ∧ u.len = fromBE32 [l0, l1, l2, l3] ∧ u.typeCode = fromBE32 [t0, t1, t2, t3]
      ∧ u.crcState = crcFold 0xFFFFFFFF#32 [t0, t1, t2, t3] ∧ u.idx = 0 ∧ u.cnt = 0 ∧ u.crcRx = 0 ∧ u.out = s.out
      ∧ (if alpha t0 && alpha t1 && alpha t2 && alpha t3 then
          u.mode = .dec ∧ u.err = .none ∧ (if u.len = 0#32 then u.phase = .trl else u.phase = .pay)
        else u.mode = .idle ∧ u.err = .invalidTypeCode ∧ u.done = false ∧ u.phase = .hdr)

/-- R223: a payload byte in DEC mode is covered and counted; the L-th one starts the trailer; in every state of the invariant
CNT < LEN before it. With L = 5 the 5th byte moves PHASE to TRL with CNT = 5. -/
def Obligations.PayloadByteIsCoveredAndCounted : Prop :=
  ∀ (s : State) (data : Word), s.mode = .dec → s.phase = .pay →
    (s.cnt + 1#32 ≠ s.len →
      exec (.wrDin data) s = .next { s with crcState := crc8 s.crcState (data.extractLsb' 0 8), cnt := s.cnt + 1#32 })
    ∧ (s.cnt + 1#32 = s.len →
      exec (.wrDin data) s = .next { s with
        crcState := crc8 s.crcState (data.extractLsb' 0 8), cnt := s.cnt + 1#32, phase := .trl })
    ∧ (s.Inv → s.cnt < s.len)
    ∧ (s.len = 5 → s.cnt = 4 → ∃ t, exec (.wrDin data) s = .next t ∧ t.phase = .trl ∧ t.cnt = 5)

/-- R224: a trailer byte in DEC mode enters CRC_RX, uncovered; the fourth gives the verdict. Every other register keeps its
value on both outcomes. For the frame of the example the last byte gives CRC_RX = CRC_OUT = 0xAE508D6F and STATUS =
0x00000108 (SEQERR clear). -/
def Obligations.TrailerByteGivesTheVerdict : Prop :=
  (∀ (s : State) (data : Word), s.mode = .dec → s.phase = .trl →
    let r' := (s.crcRx <<< 8) ||| (data.extractLsb' 0 8).setWidth 32
    (s.idx ≠ 3#3 → exec (.wrDin data) s = .next { s with crcRx := r', idx := s.idx + 1#3 })
    ∧ (s.idx = 3#3 → s.crcState ^^^ 0xFFFFFFFF#32 = r' →
      exec (.wrDin data) s = .next { s with crcRx := r', idx := 0#3, mode := .idle, done := true })
    ∧ (s.idx = 3#3 → s.crcState ^^^ 0xFFFFFFFF#32 ≠ r' →
      exec (.wrDin data) s = .next { s with
        crcRx := r', idx := 0#3, err := .checksumMismatch, done := false, mode := .idle }))
  ∧ ∀ s : State, s.seqErr = false →
      ∃ t, hostSendAll (encode .cmdDecStart :: [0x00, 0x00, 0x00, 0x05, 0x72, 0x75, 0x53, 0x74, 0x68, 0x65, 0x6C, 0x6C,
            0x6F, 0xAE, 0x50, 0x8D, 0x6F].map dinWord) s = some t
        ∧ t.crcRx = 0xAE508D6F ∧ crcOutWord t = 0xAE508D6F ∧ statusWord t = 0x00000108

/-- R225: DEC_END in DEC mode fails with TRUNCATED_INPUT and keeps every register; in any other mode it is a protocol
violation. After DEC_START and 5 bytes it leaves STATUS = 0x00003050 (SEQERR clear). -/
def Obligations.DecEndReportsTruncation : Prop :=
  decode 0x1000000005 = .cmdDecEnd
    ∧ ∀ s : State,
      (s.mode = .dec → exec .cmdDecEnd s = .next { s with err := .truncatedInput, done := false, mode := .idle })
      ∧ (s.mode ≠ .dec → exec .cmdDecEnd s = .next { s with seqErr := true })
      ∧ (s.seqErr = false → ∀ b0 b1 b2 b3 b4 : Byte,
          ∃ t, hostSendAll (encode .cmdDecStart :: [b0, b1, b2, b3, b4].map dinWord ++ [encode .cmdDecEnd]) s = some t
            ∧ statusWord t = 0x00003050)

/-- 43_frame_decoder.md section 2 (the spec's inference in R228, in the check order of R307): H_PARSE, run over the block from
any state and any input, computes the function `parse`. An accepted chunk has consumed 12 + L bytes, exactly those written to
DIN, and nothing is emitted. -/
def Obligations.DecoderComputesParse : Prop :=
  ∀ (input : List Byte) (s : State), ∃ r, hParse input s = some r ∧ r.final.out = s.out
    ∧ (∀ c, parse input = .ok c → r.result = .ok (c, 12 + c.length.toNat) ∧ r.written = 12 + c.length.toNat)
    ∧ (∀ e, parse input = .error e → r.result = .error e ∧ r.written ≤ input.length)

/-- 43_frame_decoder.md section 2 (the spec's inference in R229): decoding the frame H_ENCODE emits gives back the chunk,
whatever bytes follow the frame; and re-encoding the chunk of an input that is exactly one accepted frame emits that input
again. Both on the block. -/
def Obligations.EncodeThenParseRoundTrips : Prop :=
  (∀ (t : Word) (p more : List Byte) (s : State), tcAlpha t = true → p.length < 2 ^ 32 →
    (s.mode = .idle ∨ s.mode = .crc) →
    ∃ f u r, hEncode t p s = some (f, u) ∧ hParse (f ++ more) u = some r
      ∧ r.result = .ok (chunkOf t p, 12 + p.length))
  ∧ ∀ (b : List Byte) (c : Chunk) (n : Nat) (s : State) (r : ParseReport),
      hParse b s = some r → r.result = .ok (c, n) → b.length = n →
      ∃ u, hEncode (fromBE32 c.typeBytes) c.payload r.final = some (b, u)

/-- 43_frame_decoder.md section 2 (the spec's inference in R230): flipping any one bit of the payload or of the checksum field
of a frame makes H_PARSE on the block fail with ChecksumMismatch. -/
def Obligations.TamperedFrameIsRefused : Prop :=
  ∀ (t : Word) (p : List Byte) (i k : Nat) (s : State), tcAlpha t = true → p.length < 2 ^ 32 →
    8 ≤ i → i < 12 + p.length → k < 8 →
    ∃ r, hParse (flipBit (frame t p) i k) s = some r ∧ r.result = .error .checksumMismatch

/-! ## Control -/

/-- R260: ABORT sets MODE to IDLE and changes nothing else, in every mode; in IDLE it has no effect; in every state of the
invariant, an operation it abandons leaves DONE and ERR 0. After DEC_START and three header bytes it leaves STATUS =
0x00000030 (SEQERR clear). -/
def Obligations.AbortReturnsToIdle : Prop :=
  decode 0x1000000006 = .cmdAbort
    ∧ ∀ s : State,
      exec .cmdAbort s = .next { s with mode := .idle }
      ∧ (s.mode = .idle → exec .cmdAbort s = .next s)
      ∧ (s.Inv → s.mode ≠ .idle → ∃ t, exec .cmdAbort s = .next t ∧ t.done = false ∧ t.err = .none)
      ∧ (s.seqErr = false → ∀ b0 b1 b2 : Byte,
          ∃ t, hostSendAll (encode .cmdDecStart :: [b0, b1, b2].map dinWord ++ [encode .cmdAbort]) s = some t
            ∧ statusWord t = 0x00000030)

/-- R261: CLEAR clears DONE, ERR and SEQERR and changes nothing else; no other transaction clears SEQERR. A STATUS of
0x00000200 becomes 0. -/
def Obligations.ClearClearsOutcomeFlags : Prop :=
  decode 0x1000000007 = .cmdClear
    ∧ ∀ s : State,
      exec .cmdClear s = .next { s with done := false, err := .none, seqErr := false }
      ∧ (∀ i t, exec i s = .next t → s.seqErr = true → t.seqErr = false → i = .cmdClear)
      ∧ (statusWord s = 0x00000200 → ∃ t, exec .cmdClear s = .next t ∧ statusWord t = 0x00000000)

/-- R268: a DIN write in IDLE is a protocol violation; the byte is discarded. After reset, `din 0x41` leaves STATUS =
0x00000200 and CRC_STATE = 0xFFFFFFFF. -/
def Obligations.DinInIdleIsDiscarded : Prop :=
  (∀ (s : State) (data : Word), s.mode = .idle → exec (.wrDin data) s = .next { s with seqErr := true })
  ∧ ∃ t, exec (.wrDin 0x41) State.reset = .next t ∧ statusWord t = 0x00000200 ∧ t.crcState = 0xFFFFFFFF

/-- R264, R265, R266, R267: an access that names no operation. A write to a read-only or reserved slot and a reserved
command set SEQERR and change nothing else; a read of a write-only or reserved slot returns 0 and changes nothing. -/
def Obligations.AccessesThatNameNoOperation : Prop :=
  ∀ (s : State) (slot : Slot) (data : Word),
    exec (.cmdRsvd data) s = .next { s with seqErr := true }
    ∧ exec (.wrStatus data) s = .next { s with seqErr := true }
    ∧ exec (.wrTcprop data) s = .next { s with seqErr := true }
    ∧ exec (.wrCrcState data) s = .next { s with seqErr := true }
    ∧ exec (.wrCrcOut data) s = .next { s with seqErr := true }
    ∧ exec (.wrCrcRx data) s = .next { s with seqErr := true }
    ∧ exec (.wrCnt data) s = .next { s with seqErr := true }
    ∧ exec (.wrRsvd1011 slot data) s = .next { s with seqErr := true }
    ∧ exec (.wrRsvd1215 slot data) s = .next { s with seqErr := true }
    ∧ exec .rdCmd s = .next { s with response := some 0x00000000#32 }
    ∧ exec .rdDin s = .next { s with response := some 0x00000000#32 }
    ∧ exec (.rdRsvd1011 slot) s = .next { s with response := some 0x00000000#32 }
    ∧ exec (.rdRsvd1215 slot) s = .next { s with response := some 0x00000000#32 }
    ∧ decode 0x1000000000 = .cmdRsvd 0 ∧ decode 0x1000000101 = .cmdRsvd 0x101
    ∧ statusWord { State.reset with seqErr := true } = 0x00000200
    ∧ decode 0x0C00000000 = .rdRsvd1215 12 ∧ decode 0x1C00000001 = .wrRsvd1215 12 1

/-- 20_memory.md section 3 (R75): only data[7:0] of a DIN write matters, in every mode and phase. -/
def Obligations.DinUpperBitsAreIgnored : Prop :=
  ∀ (s : State) (d d' : Word), d.extractLsb' 0 8 = d'.extractLsb' 0 8 → exec (.wrDin d) s = exec (.wrDin d') s

/-! ## Errors -/

/-- R304: the protocol violations are exactly those listed; one sets SEQERR and changes nothing else, and no other
transaction sets SEQERR. -/
def Obligations.ViolationsAreExactlyThoseListed : Prop :=
  ∀ (i : Instr) (s : State),
    (isViolation i s → exec i s = .next { s with seqErr := true })
    ∧ ∀ t, exec i s = .next t → ¬ isViolation i s → t.seqErr = true → s.seqErr = true

/-- R41: SEQERR is set by every protocol violation and cleared only by CLEAR and reset; no other rule reads it (apart from
the read of STATUS that shows it): a state that differs only in SEQERR behaves the same but for SEQERR, so it never changes
MODE, DONE or ERR. -/
def Obligations.SeqErrIsStickyAndReadByNoRule : Prop :=
  (∀ (i : Instr) (s : State), isViolation i s → ∃ t, exec i s = .next t ∧ t.seqErr = true)
  ∧ (∀ s t : State, step s = .next t → s.seqErr = true → t.seqErr = false →
      (∃ rest, s.inputs = .rst :: rest) ∨ ∃ w rest, s.inputs = .txn w :: rest ∧ decode w = .cmdClear)
  ∧ ∀ (i : Instr) (s t u : State) (b : Bool), i ≠ .rdStatus → exec i s = .next t → exec i { s with seqErr := b } = .next u →
      u = { t with seqErr := u.seqErr }

/-- R302, R303 and section 1 of 60_exceptions.md (R301): which transactions raise which error code, and what is recorded
with it. A code that was not there before has one of these causes, and each cause raises its code, clears DONE and returns to
IDLE. -/
def Obligations.ErrorCodesHaveExactlyTheirCauses : Prop :=
  ∀ (i : Instr) (s t : State), exec i s = .next t →
    (t.err = .invalidTypeCode → s.err ≠ .invalidTypeCode →
      tcAlpha t.typeCode = false ∧ t.done = false ∧ t.mode = .idle
      ∧ (i = .cmdEncStart ∨ ((∃ data, i = .wrDin data) ∧ s.mode = .dec ∧ s.phase = .hdr ∧ s.idx = 7#3)))
    ∧ (t.err = .checksumMismatch → s.err ≠ .checksumMismatch →
      crcOutWord t ≠ t.crcRx ∧ s.mode = .dec ∧ s.phase = .trl ∧ s.idx = 3#3
      ∧ ∃ data, i = .wrDin data ∧ t = { s with
          crcRx := (s.crcRx <<< 8) ||| (data.extractLsb' 0 8).setWidth 32,
          idx := 0#3, err := .checksumMismatch, done := false, mode := .idle })
    ∧ (t.err = .truncatedInput → s.err ≠ .truncatedInput →
      i = .cmdDecEnd ∧ s.mode = .dec ∧ t = { s with err := .truncatedInput, done := false, mode := .idle })
    ∧ (i = .cmdEncStart → tcAlpha s.typeCode = false → t.err = .invalidTypeCode ∧ t.done = false ∧ t.mode = .idle)
    ∧ ((∃ data, i = .wrDin data) → s.mode = .dec → s.phase = .hdr → s.idx = 7#3 → tcAlpha t.typeCode = false →
      t.err = .invalidTypeCode ∧ t.done = false ∧ t.mode = .idle)
    ∧ ((∃ data, i = .wrDin data) → s.mode = .dec → s.phase = .trl → s.idx = 3#3 → crcOutWord t ≠ t.crcRx →
      t.err = .checksumMismatch ∧ t.done = false ∧ t.mode = .idle)
    ∧ (i = .cmdDecEnd → s.mode = .dec → t.err = .truncatedInput ∧ t.done = false ∧ t.mode = .idle)

/-- 60_exceptions.md section 3 (the spec's inference in R308): no transaction both fails an operation and records a protocol
violation; a failing operation leaves SEQERR as it was, and a protocol violation leaves ERR and DONE. -/
def Obligations.FailureAndViolationExcludeEachOther : Prop :=
  ∀ (i : Instr) (s t : State), exec i s = .next t →
    (t.err ≠ .none → t.err ≠ s.err → t.seqErr = s.seqErr ∧ ¬ isViolation i s)
    ∧ (t.seqErr ≠ s.seqErr → i ≠ .cmdClear → t.err = s.err ∧ t.done = s.done ∧ t.mode = s.mode)

/-- R310: in IDLE, DONE and ERR stay as the last operation left them, and the block stays in IDLE, until a start command or
CLEAR (or reset); SEQERR stays set until CLEAR (or reset). -/
def Obligations.OutcomeStaysUntilStartOrClear : Prop :=
  ∀ (i : Instr) (s t : State), exec i s = .next t →
    (s.mode = .idle → isStart i = false → i ≠ .cmdClear → t.done = s.done ∧ t.err = s.err ∧ t.mode = .idle)
    ∧ (s.seqErr = true → i ≠ .cmdClear → t.seqErr = true)

/-! ## Operations and the whole machine -/

/-- R37: the codes of MODE, and the transitions of MODE out of IDLE and back into it; in every state of the invariant, a
transaction that returns MODE to IDLE is ABORT or ends the operation with DONE or with an error; the reset signal returns
it too. -/
def Obligations.ModeLeavesAndReturnsToIdleAsStated : Prop :=
  Mode.code .idle = 0 ∧ Mode.code .crc = 1 ∧ Mode.code .enc = 2 ∧ Mode.code .dec = 3
  ∧ (∀ (i : Instr) (s t : State), exec i s = .next t →
      (s.mode = .idle → t.mode ≠ .idle →
        (i = .cmdCrcInit ∧ t.mode = .crc) ∨ (i = .cmdEncStart ∧ tcAlpha s.typeCode = true ∧ t.mode = .enc)
          ∨ (i = .cmdDecStart ∧ t.mode = .dec))
      ∧ (s.Inv → s.mode ≠ .idle → t.mode = .idle → i = .cmdAbort ∨ t.done = true ∨ t.err ≠ .none)
      ∧ (s.mode = .idle → ∀ data, i = .wrDin data → t = { s with seqErr := true }))
  ∧ ∀ (s : State) (rest : List HostEvent), s.inputs = .rst :: rest → ∃ t, step s = .next t ∧ t.mode = .idle

/-- 70_reset_and_hazards.md section 5 (R339): in every state of the invariant, the transaction after which MODE is IDLE ends
the operation successfully (DONE and no error), with a failure (an error and no DONE), or by ABORT (neither). -/
def Obligations.OperationEndsWithOneOutcome : Prop :=
  ∀ (i : Instr) (s t : State), s.Inv → s.mode ≠ .idle → exec i s = .next t → t.mode = .idle →
    (i = .cmdAbort ∧ t.done = false ∧ t.err = .none)
    ∨ (i ≠ .cmdAbort ∧ ((t.done = true ∧ t.err = .none) ∨ (t.done = false ∧ t.err ≠ .none)))

/-- R51: only the encoder appends to OUT (ENC_START, and a DIN byte in ENC mode), no rule removes, reorders or rewrites a
byte of it, and reset makes it empty. -/
def Obligations.OutIsAppendOnly : Prop :=
  (∀ (i : Instr) (s t : State), exec i s = .next t →
    (∃ emitted, t.out = s.out ++ emitted)
    ∧ (t.out ≠ s.out → i = .cmdEncStart ∨ (s.mode = .enc ∧ ∃ data, i = .wrDin data)))
  ∧ ∀ s t : State, step s = .next t → (∃ rest, s.inputs = .rst :: rest) ∧ t.out = [] ∨ ∃ emitted, t.out = s.out ++ emitted

/-- 70_reset_and_hazards.md section 3 (R336): a start command does the same in every mode and phase, so the operation in
progress is abandoned without an error of its own; bytes already emitted stay in OUT, and SEQERR is unchanged. -/
def Obligations.StartCommandsAbandonTheOperation : Prop :=
  ∀ (i : Instr) (s t : State), isStart i = true → exec i s = .next t →
    (∀ m, exec i { s with mode := m } = .next t)
    ∧ (tcAlpha s.typeCode = true ∨ i ≠ .cmdEncStart → t.err = .none
        ∧ ∀ (m : Mode) (ph : Phase) (k : BitVec 3) (c n : Word) (d : Bool) (e : ErrCode),
          exec i { s with mode := m, phase := ph, idx := k, crcState := c, cnt := n, done := d, err := e } = .next t)
    ∧ (∃ emitted, t.out = s.out ++ emitted) ∧ t.seqErr = s.seqErr

/-- 70_reset_and_hazards.md section 3 (the spec's inference in R337): while MODE is ENC or DEC a host write of TYPE or LEN
changes neither; and while MODE is ENC no transaction but DEC_START changes them. -/
def Obligations.OwnedRegistersKeepTheirValue : Prop :=
  ∀ (i : Instr) (s t : State), exec i s = .next t →
    ((s.mode = .enc ∨ s.mode = .dec) → (∃ data, i = .wrType data ∨ i = .wrLen data) →
      t.typeCode = s.typeCode ∧ t.len = s.len)
    ∧ (s.mode = .enc → i ≠ .cmdDecStart → t.typeCode = s.typeCode ∧ t.len = s.len)

/-- The invariant of reachable states holds after reset. -/
def Obligations.InvariantHoldsAtReset : Prop := State.reset.Inv

/-- Every step from a state of the invariant leads to a state of the invariant, whatever the host has issued (R38, R39, R40,
R42, R194, R198, R222, R223, R224, R336). -/
def Obligations.StepKeepsInvariant : Prop :=
  ∀ s t : State, s.Inv → step s = .next t → t.Inv
end

