-- ==== Sys2Proof/Laws/Crc.lean ====
section
/-! SUPPORT. The small facts about bytes and the CRC fold. -/

namespace Sys2Proof.Machine

@[simp] theorem dinByte_zext32 (b : Byte) : dinByte (zext32 b) = b := by
  ext i hi
  have : i < 32 := by omega
  simp [dinByte, zext32, hi, this]

theorem getLsbD_zext32 (b : Byte) (k : Nat) : (zext32 b).getLsbD k = b.getLsbD k := by
  rw [zext32, BitVec.getLsbD_setWidth]
  by_cases h : k < 32
  · simp [h]
  · simp [h, BitVec.getLsbD_of_ge b k (by omega)]

/-- The next big-endian byte, as arithmetic on a register that has room for it (R221, R224). -/
theorem toNat_shiftInByte (r : Word) (b : Byte) (h : r.toNat < 2 ^ 24) :
    (shiftInByte r b).toNat = r.toNat * 2 ^ 8 + b.toNat := by
  have hb := b.isLt
  have h1 : (zext32 b).toNat = b.toNat := by simp [zext32]; omega
  rw [shiftInByte, BitVec.toNat_or, BitVec.toNat_shiftLeft, h1, Nat.shiftLeft_eq, Nat.mod_eq_of_lt (by omega),
    Nat.mul_comm, Nat.two_pow_add_eq_or_of_lt hb]

/-- The bytes of a big-endian word, as arithmetic (R9). -/
theorem toNat_fromBE32 (b0 b1 b2 b3 : Byte) :
    (fromBE32 [b0, b1, b2, b3]).toNat
      = ((b0.toNat * 2 ^ 8 + b1.toNat) * 2 ^ 8 + b2.toNat) * 2 ^ 8 + b3.toNat := by
  have h : (fromBE32 [b0, b1, b2, b3]).toNat = (b0 ++ b1 ++ b2 ++ b3).toNat := rfl
  have append {n : Nat} (x : BitVec n) (y : Byte) : (x ++ y).toNat = x.toNat * 2 ^ 8 + y.toNat := by
    rw [BitVec.toNat_append, Nat.shiftLeft_eq, Nat.mul_comm, Nat.two_pow_add_eq_or_of_lt y.isLt]
  rw [h, append, append, append]

@[simp] theorem length_be32 (v : Word) : (be32 v).length = 4 := rfl

@[simp] theorem length_typeBytes (t : Word) : (typeBytes t).length = 4 := rfl

@[simp] theorem crcFold_nil (c : Word) : crcFold c [] = c := rfl

theorem crcFold_cons (c : Word) (b : Byte) (s : List Byte) : crcFold c (b :: s) = crcFold (crc8 c b) s := rfl

theorem crcFold_append (c : Word) (s t : List Byte) : crcFold c (s ++ t) = crcFold (crcFold c s) t :=
  List.foldl_append

theorem crcFold_concat (c : Word) (s : List Byte) (b : Byte) : crcFold c (s ++ [b]) = crc8 (crcFold c s) b :=
  crcFold_append c s [b]

/-- The complement CRC_OUT shows determines the register. -/
theorem crcOutOf_injective {c d : Word} (h : crcOutOf c = crcOutOf d) : c = d := by
  simpa [crcOutOf] using h

end Sys2Proof.Machine
end

