-- ==== Sys2Proof/Laws/State.lean ====
section
/-! SUPPORT. One lemma per field and shared operation: what the operation leaves in the field. -/

namespace Sys2Proof.Machine

variable (s : State)

/-! ## `fail` -/

@[simp] theorem fail_mode (code : ErrCode) : (fail code s).mode = .idle := rfl
@[simp] theorem fail_phase (code : ErrCode) : (fail code s).phase = s.phase := rfl
@[simp] theorem fail_idx (code : ErrCode) : (fail code s).idx = s.idx := rfl
@[simp] theorem fail_done (code : ErrCode) : (fail code s).done = false := rfl
@[simp] theorem fail_seqErr (code : ErrCode) : (fail code s).seqErr = s.seqErr := rfl
@[simp] theorem fail_err (code : ErrCode) : (fail code s).err = code := rfl
@[simp] theorem fail_typeCode (code : ErrCode) : (fail code s).typeCode = s.typeCode := rfl
@[simp] theorem fail_len (code : ErrCode) : (fail code s).len = s.len := rfl
@[simp] theorem fail_crcState (code : ErrCode) : (fail code s).crcState = s.crcState := rfl
@[simp] theorem fail_crcRx (code : ErrCode) : (fail code s).crcRx = s.crcRx := rfl
@[simp] theorem fail_cnt (code : ErrCode) : (fail code s).cnt = s.cnt := rfl
@[simp] theorem fail_out (code : ErrCode) : (fail code s).out = s.out := rfl
@[simp] theorem fail_response (code : ErrCode) : (fail code s).response = s.response := rfl
@[simp] theorem fail_inputs (code : ErrCode) : (fail code s).inputs = s.inputs := rfl

/-! ## `seqerr` -/

@[simp] theorem seqerr_mode : (seqerr s).mode = s.mode := rfl
@[simp] theorem seqerr_phase : (seqerr s).phase = s.phase := rfl
@[simp] theorem seqerr_idx : (seqerr s).idx = s.idx := rfl
@[simp] theorem seqerr_done : (seqerr s).done = s.done := rfl
@[simp] theorem seqerr_seqErr : (seqerr s).seqErr = true := rfl
@[simp] theorem seqerr_err : (seqerr s).err = s.err := rfl
@[simp] theorem seqerr_typeCode : (seqerr s).typeCode = s.typeCode := rfl
@[simp] theorem seqerr_len : (seqerr s).len = s.len := rfl
@[simp] theorem seqerr_crcState : (seqerr s).crcState = s.crcState := rfl
@[simp] theorem seqerr_crcRx : (seqerr s).crcRx = s.crcRx := rfl
@[simp] theorem seqerr_cnt : (seqerr s).cnt = s.cnt := rfl
@[simp] theorem seqerr_out : (seqerr s).out = s.out := rfl
@[simp] theorem seqerr_response : (seqerr s).response = s.response := rfl
@[simp] theorem seqerr_inputs : (seqerr s).inputs = s.inputs := rfl

/-! ## `respond` -/

@[simp] theorem respond_mode (v : Word) : (respond v s).mode = s.mode := rfl
@[simp] theorem respond_phase (v : Word) : (respond v s).phase = s.phase := rfl
@[simp] theorem respond_idx (v : Word) : (respond v s).idx = s.idx := rfl
@[simp] theorem respond_done (v : Word) : (respond v s).done = s.done := rfl
@[simp] theorem respond_seqErr (v : Word) : (respond v s).seqErr = s.seqErr := rfl
@[simp] theorem respond_err (v : Word) : (respond v s).err = s.err := rfl
@[simp] theorem respond_typeCode (v : Word) : (respond v s).typeCode = s.typeCode := rfl
@[simp] theorem respond_len (v : Word) : (respond v s).len = s.len := rfl
@[simp] theorem respond_crcState (v : Word) : (respond v s).crcState = s.crcState := rfl
@[simp] theorem respond_crcRx (v : Word) : (respond v s).crcRx = s.crcRx := rfl
@[simp] theorem respond_cnt (v : Word) : (respond v s).cnt = s.cnt := rfl
@[simp] theorem respond_out (v : Word) : (respond v s).out = s.out := rfl
@[simp] theorem respond_response (v : Word) : (respond v s).response = some v := rfl
@[simp] theorem respond_inputs (v : Word) : (respond v s).inputs = s.inputs := rfl

/-! ## `emit` -/

@[simp] theorem emit_mode (bytes : List Byte) : (emit bytes s).mode = s.mode := rfl
@[simp] theorem emit_phase (bytes : List Byte) : (emit bytes s).phase = s.phase := rfl
@[simp] theorem emit_idx (bytes : List Byte) : (emit bytes s).idx = s.idx := rfl
@[simp] theorem emit_done (bytes : List Byte) : (emit bytes s).done = s.done := rfl
@[simp] theorem emit_seqErr (bytes : List Byte) : (emit bytes s).seqErr = s.seqErr := rfl
@[simp] theorem emit_err (bytes : List Byte) : (emit bytes s).err = s.err := rfl
@[simp] theorem emit_typeCode (bytes : List Byte) : (emit bytes s).typeCode = s.typeCode := rfl
@[simp] theorem emit_len (bytes : List Byte) : (emit bytes s).len = s.len := rfl
@[simp] theorem emit_crcState (bytes : List Byte) : (emit bytes s).crcState = s.crcState := rfl
@[simp] theorem emit_crcRx (bytes : List Byte) : (emit bytes s).crcRx = s.crcRx := rfl
@[simp] theorem emit_cnt (bytes : List Byte) : (emit bytes s).cnt = s.cnt := rfl
@[simp] theorem emit_out (bytes : List Byte) : (emit bytes s).out = s.out ++ bytes := rfl
@[simp] theorem emit_response (bytes : List Byte) : (emit bytes s).response = s.response := rfl
@[simp] theorem emit_inputs (bytes : List Byte) : (emit bytes s).inputs = s.inputs := rfl

/-! ## `cover` -/

@[simp] theorem cover_mode (bytes : List Byte) : (cover bytes s).mode = s.mode := rfl
@[simp] theorem cover_phase (bytes : List Byte) : (cover bytes s).phase = s.phase := rfl
@[simp] theorem cover_idx (bytes : List Byte) : (cover bytes s).idx = s.idx := rfl
@[simp] theorem cover_done (bytes : List Byte) : (cover bytes s).done = s.done := rfl
@[simp] theorem cover_seqErr (bytes : List Byte) : (cover bytes s).seqErr = s.seqErr := rfl
@[simp] theorem cover_err (bytes : List Byte) : (cover bytes s).err = s.err := rfl
@[simp] theorem cover_typeCode (bytes : List Byte) : (cover bytes s).typeCode = s.typeCode := rfl
@[simp] theorem cover_len (bytes : List Byte) : (cover bytes s).len = s.len := rfl
@[simp] theorem cover_crcState (bytes : List Byte) : (cover bytes s).crcState = crcFold s.crcState bytes := rfl
@[simp] theorem cover_crcRx (bytes : List Byte) : (cover bytes s).crcRx = s.crcRx := rfl
@[simp] theorem cover_cnt (bytes : List Byte) : (cover bytes s).cnt = s.cnt := rfl
@[simp] theorem cover_out (bytes : List Byte) : (cover bytes s).out = s.out := rfl
@[simp] theorem cover_response (bytes : List Byte) : (cover bytes s).response = s.response := rfl
@[simp] theorem cover_inputs (bytes : List Byte) : (cover bytes s).inputs = s.inputs := rfl

/-! ## `countByte` -/

@[simp] theorem countByte_mode : (countByte s).mode = s.mode := rfl
@[simp] theorem countByte_phase : (countByte s).phase = s.phase := rfl
@[simp] theorem countByte_idx : (countByte s).idx = s.idx := rfl
@[simp] theorem countByte_done : (countByte s).done = s.done := rfl
@[simp] theorem countByte_seqErr : (countByte s).seqErr = s.seqErr := rfl
@[simp] theorem countByte_err : (countByte s).err = s.err := rfl
@[simp] theorem countByte_typeCode : (countByte s).typeCode = s.typeCode := rfl
@[simp] theorem countByte_len : (countByte s).len = s.len := rfl
@[simp] theorem countByte_crcState : (countByte s).crcState = s.crcState := rfl
@[simp] theorem countByte_crcRx : (countByte s).crcRx = s.crcRx := rfl
@[simp] theorem countByte_cnt : (countByte s).cnt = s.cnt + 1#32 := rfl
@[simp] theorem countByte_out : (countByte s).out = s.out := rfl
@[simp] theorem countByte_response : (countByte s).response = s.response := rfl
@[simp] theorem countByte_inputs : (countByte s).inputs = s.inputs := rfl

/-! ## `startOperation` -/

@[simp] theorem startOperation_mode (m : Mode) (ph : Phase) : (startOperation m ph s).mode = m := rfl
@[simp] theorem startOperation_phase (m : Mode) (ph : Phase) : (startOperation m ph s).phase = ph := rfl
@[simp] theorem startOperation_idx (m : Mode) (ph : Phase) : (startOperation m ph s).idx = 0#3 := rfl
@[simp] theorem startOperation_done (m : Mode) (ph : Phase) : (startOperation m ph s).done = false := rfl
@[simp] theorem startOperation_seqErr (m : Mode) (ph : Phase) : (startOperation m ph s).seqErr = s.seqErr := rfl
@[simp] theorem startOperation_err (m : Mode) (ph : Phase) : (startOperation m ph s).err = .none := rfl
@[simp] theorem startOperation_typeCode (m : Mode) (ph : Phase) : (startOperation m ph s).typeCode = s.typeCode := rfl
@[simp] theorem startOperation_len (m : Mode) (ph : Phase) : (startOperation m ph s).len = s.len := rfl
@[simp] theorem startOperation_crcState (m : Mode) (ph : Phase) : (startOperation m ph s).crcState = crcInitial := rfl
@[simp] theorem startOperation_crcRx (m : Mode) (ph : Phase) : (startOperation m ph s).crcRx = s.crcRx := rfl
@[simp] theorem startOperation_cnt (m : Mode) (ph : Phase) : (startOperation m ph s).cnt = 0#32 := rfl
@[simp] theorem startOperation_out (m : Mode) (ph : Phase) : (startOperation m ph s).out = s.out := rfl
@[simp] theorem startOperation_response (m : Mode) (ph : Phase) : (startOperation m ph s).response = s.response := rfl
@[simp] theorem startOperation_inputs (m : Mode) (ph : Phase) : (startOperation m ph s).inputs = s.inputs := rfl

/-! ## `complete` -/

@[simp] theorem complete_mode : (complete s).mode = .idle := rfl
@[simp] theorem complete_phase : (complete s).phase = s.phase := rfl
@[simp] theorem complete_idx : (complete s).idx = s.idx := rfl
@[simp] theorem complete_done : (complete s).done = true := rfl
@[simp] theorem complete_seqErr : (complete s).seqErr = s.seqErr := rfl
@[simp] theorem complete_err : (complete s).err = s.err := rfl
@[simp] theorem complete_typeCode : (complete s).typeCode = s.typeCode := rfl
@[simp] theorem complete_len : (complete s).len = s.len := rfl
@[simp] theorem complete_crcState : (complete s).crcState = s.crcState := rfl
@[simp] theorem complete_crcRx : (complete s).crcRx = s.crcRx := rfl
@[simp] theorem complete_cnt : (complete s).cnt = s.cnt := rfl
@[simp] theorem complete_out : (complete s).out = s.out := rfl
@[simp] theorem complete_response : (complete s).response = s.response := rfl
@[simp] theorem complete_inputs : (complete s).inputs = s.inputs := rfl

/-! ## `encFinish` -/

@[simp] theorem encFinish_mode : (encFinish s).mode = .idle := rfl
@[simp] theorem encFinish_phase : (encFinish s).phase = .trl := rfl
@[simp] theorem encFinish_idx : (encFinish s).idx = 0#3 := rfl
@[simp] theorem encFinish_done : (encFinish s).done = true := rfl
@[simp] theorem encFinish_seqErr : (encFinish s).seqErr = s.seqErr := rfl
@[simp] theorem encFinish_err : (encFinish s).err = s.err := rfl
@[simp] theorem encFinish_typeCode : (encFinish s).typeCode = s.typeCode := rfl
@[simp] theorem encFinish_len : (encFinish s).len = s.len := rfl
@[simp] theorem encFinish_crcState : (encFinish s).crcState = s.crcState := rfl
@[simp] theorem encFinish_crcRx : (encFinish s).crcRx = s.crcRx := rfl
@[simp] theorem encFinish_cnt : (encFinish s).cnt = s.cnt := rfl
@[simp] theorem encFinish_out : (encFinish s).out = s.out ++ be32 (crcOutWord s) := rfl
@[simp] theorem encFinish_response : (encFinish s).response = s.response := rfl
@[simp] theorem encFinish_inputs : (encFinish s).inputs = s.inputs := rfl

/-! ## `takeInput` -/

@[simp] theorem takeInput_mode (rest : List HostEvent) : (takeInput rest s).mode = s.mode := rfl
@[simp] theorem takeInput_phase (rest : List HostEvent) : (takeInput rest s).phase = s.phase := rfl
@[simp] theorem takeInput_idx (rest : List HostEvent) : (takeInput rest s).idx = s.idx := rfl
@[simp] theorem takeInput_done (rest : List HostEvent) : (takeInput rest s).done = s.done := rfl
@[simp] theorem takeInput_seqErr (rest : List HostEvent) : (takeInput rest s).seqErr = s.seqErr := rfl
@[simp] theorem takeInput_err (rest : List HostEvent) : (takeInput rest s).err = s.err := rfl
@[simp] theorem takeInput_typeCode (rest : List HostEvent) : (takeInput rest s).typeCode = s.typeCode := rfl
@[simp] theorem takeInput_len (rest : List HostEvent) : (takeInput rest s).len = s.len := rfl
@[simp] theorem takeInput_crcState (rest : List HostEvent) : (takeInput rest s).crcState = s.crcState := rfl
@[simp] theorem takeInput_crcRx (rest : List HostEvent) : (takeInput rest s).crcRx = s.crcRx := rfl
@[simp] theorem takeInput_cnt (rest : List HostEvent) : (takeInput rest s).cnt = s.cnt := rfl
@[simp] theorem takeInput_out (rest : List HostEvent) : (takeInput rest s).out = s.out := rfl
@[simp] theorem takeInput_response (rest : List HostEvent) : (takeInput rest s).response = none := rfl
@[simp] theorem takeInput_inputs (rest : List HostEvent) : (takeInput rest s).inputs = rest := rfl

/-! ## `issueFirst` -/

@[simp] theorem issueFirst_mode (w : TWord) : (issueFirst w s).mode = s.mode := rfl
@[simp] theorem issueFirst_phase (w : TWord) : (issueFirst w s).phase = s.phase := rfl
@[simp] theorem issueFirst_idx (w : TWord) : (issueFirst w s).idx = s.idx := rfl
@[simp] theorem issueFirst_done (w : TWord) : (issueFirst w s).done = s.done := rfl
@[simp] theorem issueFirst_seqErr (w : TWord) : (issueFirst w s).seqErr = s.seqErr := rfl
@[simp] theorem issueFirst_err (w : TWord) : (issueFirst w s).err = s.err := rfl
@[simp] theorem issueFirst_typeCode (w : TWord) : (issueFirst w s).typeCode = s.typeCode := rfl
@[simp] theorem issueFirst_len (w : TWord) : (issueFirst w s).len = s.len := rfl
@[simp] theorem issueFirst_crcState (w : TWord) : (issueFirst w s).crcState = s.crcState := rfl
@[simp] theorem issueFirst_crcRx (w : TWord) : (issueFirst w s).crcRx = s.crcRx := rfl
@[simp] theorem issueFirst_cnt (w : TWord) : (issueFirst w s).cnt = s.cnt := rfl
@[simp] theorem issueFirst_out (w : TWord) : (issueFirst w s).out = s.out := rfl
@[simp] theorem issueFirst_response (w : TWord) : (issueFirst w s).response = s.response := rfl
@[simp] theorem issueFirst_inputs (w : TWord) : (issueFirst w s).inputs = .txn w :: s.inputs := rfl

end Sys2Proof.Machine
end

