-- ==== Sys2Proof/Laws/Exec.lean ====
section
/-! SUPPORT. What one transaction can do, said once: `exec` answers the next state `effect i s`, a function of the
instruction and the state, which later proofs cite instead of unfolding `exec`. -/

namespace Sys2Proof.Machine

/-- The next state of a DIN byte (R268, R269). -/
def dinEffect (b : Byte) (s : State) : State :=
  match s.mode with
  | .idle => seqerr s
  | .crc => crcByte b s
  | .enc => encByte b s
  | .dec =>
    match s.phase with
    | .hdr => decHeaderByte b s
    | .pay => decPayloadByte b s
    | .trl => decTrailerByte b s

/-- The next state of ENC_START (R193). -/
def encStartEffect (s : State) : State :=
  if tcAlpha s.typeCode then if s.len = 0#32 then encFinish (encHeader s) else encHeader s
  else fail .invalidTypeCode s

/-- The next state of a transaction. -/
def effect : Instr → State → State
  | .cmdCrcInit, s => startOperation .crc .hdr s
  | .cmdCrcEnd, s => match s.mode with
    | .crc => complete s
    | .idle | .enc | .dec => seqerr s
  | .cmdEncStart, s => encStartEffect s
  | .cmdDecStart, s => { startOperation .dec .hdr s with len := 0#32, typeCode := 0#32, crcRx := 0#32 }
  | .cmdDecEnd, s => match s.mode with
    | .dec => fail .truncatedInput s
    | .idle | .crc | .enc => seqerr s
  | .cmdAbort, s => { s with mode := .idle }
  | .cmdClear, s => { s with done := false, err := .none, seqErr := false }
  | .wrType data, s => writeUnlessOwned (fun s => { s with typeCode := data }) s
  | .wrLen data, s => writeUnlessOwned (fun s => { s with len := data }) s
  | .wrDin data, s => dinEffect (dinByte data) s
  | .cmdRsvd _, s | .wrStatus _, s | .wrTcprop _, s | .wrCrcState _, s | .wrCrcOut _, s | .wrCrcRx _, s
  | .wrCnt _, s | .wrRsvd1011 _ _, s | .wrRsvd1215 _ _, s => seqerr s
  | .rdCmd, s | .rdDin, s | .rdRsvd1011 _, s | .rdRsvd1215 _, s => respond 0#32 s
  | .rdStatus, s => respond (statusWord s) s
  | .rdType, s => respond s.typeCode s
  | .rdLen, s => respond s.len s
  | .rdTcprop, s => respond (tcpropWord s.typeCode) s
  | .rdCrcState, s => respond s.crcState s
  | .rdCrcOut, s => respond (crcOutWord s) s
  | .rdCrcRx, s => respond s.crcRx s
  | .rdCnt, s => respond s.cnt s

/-- `exec` answers a next state for every transaction, and says which. -/
theorem exec_eq_effect (i : Instr) (s : State) : exec i s = .next (effect i s) := by
  cases i <;> rfl

/-- The one next state of a transaction. -/
theorem exec_next_iff {i : Instr} {s t : State} : exec i s = .next t ↔ t = effect i s := by
  rw [exec_eq_effect]
  exact ⟨fun h => by cases h; rfl, fun h => h ▸ rfl⟩

/-- The three ways a step goes: waiting, the reset signal, a transaction. -/
theorem step_cases {s t : State} (h : step s = .next t) :
    (s.inputs = [] ∧ t = s)
      ∨ (∃ rest, s.inputs = .rst :: rest ∧ t = applyReset (takeInput rest s))
      ∨ ∃ w rest, s.inputs = .txn w :: rest ∧ t = effect (decode w) (takeInput rest s) := by
  unfold step at h
  split at h
  · exact .inl ⟨‹_›, by cases h; rfl⟩
  · exact .inr (.inl ⟨_, ‹_›, by cases h; rfl⟩)
  · exact .inr (.inr ⟨_, _, ‹_›, exec_next_iff.1 h⟩)

/-! ## The shared operations: everything each can do -/

theorem writeUnlessOwned_cases (write : State → State) (s : State) :
    ((s.mode = .enc ∨ s.mode = .dec) ∧ writeUnlessOwned write s = seqerr s)
      ∨ ((s.mode = .idle ∨ s.mode = .crc) ∧ writeUnlessOwned write s = write s) := by
  unfold writeUnlessOwned
  split <;> simp [*]

theorem headerCheck_cases (s : State) :
    (tcAlpha s.typeCode = false ∧ headerCheck s = fail .invalidTypeCode { s with idx := 0#3 })
      ∨ (tcAlpha s.typeCode = true ∧ s.len = 0#32 ∧ headerCheck s = { s with idx := 0#3, phase := .trl })
      ∨ (tcAlpha s.typeCode = true ∧ s.len ≠ 0#32 ∧ headerCheck s = { s with idx := 0#3, phase := .pay }) := by
  by_cases ha : tcAlpha s.typeCode = true
  · by_cases hl : s.len = 0#32
    · exact .inr (.inl ⟨ha, hl, by simp only [headerCheck, if_pos ha, if_pos hl]⟩)
    · exact .inr (.inr ⟨ha, hl, by simp only [headerCheck, if_pos ha, if_neg hl]⟩)
  · exact .inl ⟨by simpa using ha, by simp only [headerCheck, if_neg ha]⟩

theorem encStartEffect_cases (s : State) :
    (tcAlpha s.typeCode = false ∧ encStartEffect s = fail .invalidTypeCode s)
      ∨ (tcAlpha s.typeCode = true ∧ s.len = 0#32 ∧ encStartEffect s = encFinish (encHeader s))
      ∨ (tcAlpha s.typeCode = true ∧ s.len ≠ 0#32 ∧ encStartEffect s = encHeader s) := by
  by_cases ha : tcAlpha s.typeCode = true
  · by_cases hl : s.len = 0#32
    · exact .inr (.inl ⟨ha, hl, by simp only [encStartEffect, if_pos ha, if_pos hl]⟩)
    · exact .inr (.inr ⟨ha, hl, by simp only [encStartEffect, if_pos ha, if_neg hl]⟩)
  · exact .inl ⟨by simpa using ha, by simp only [encStartEffect, if_neg ha]⟩

theorem encByte_cases (b : Byte) (s : State) :
    (s.cnt + 1#32 = s.len ∧ encByte b s = encFinish (countByte (cover [b] (emit [b] s))))
      ∨ (s.cnt + 1#32 ≠ s.len ∧ encByte b s = countByte (cover [b] (emit [b] s))) := by
  by_cases h : s.cnt + 1#32 = s.len
  · exact .inl ⟨h, if_pos h⟩
  · exact .inr ⟨h, if_neg h⟩

theorem decPayloadByte_cases (b : Byte) (s : State) :
    (s.cnt + 1#32 = s.len ∧ decPayloadByte b s = { countByte (cover [b] s) with phase := .trl })
      ∨ (s.cnt + 1#32 ≠ s.len ∧ decPayloadByte b s = countByte (cover [b] s)) := by
  by_cases h : s.cnt + 1#32 = s.len
  · exact .inl ⟨h, if_pos h⟩
  · exact .inr ⟨h, if_neg h⟩

theorem decTrailerByte_cases (b : Byte) (s : State) :
    (s.idx ≠ 3#3 ∧ decTrailerByte b s = { s with crcRx := shiftInByte s.crcRx b, idx := s.idx + 1#3 })
      ∨ (s.idx = 3#3 ∧ crcOutWord s = shiftInByte s.crcRx b
          ∧ decTrailerByte b s = complete { s with crcRx := shiftInByte s.crcRx b, idx := 0#3 })
      ∨ (s.idx = 3#3 ∧ crcOutWord s ≠ shiftInByte s.crcRx b
          ∧ decTrailerByte b s = fail .checksumMismatch { s with crcRx := shiftInByte s.crcRx b, idx := 0#3 }) := by
  by_cases h : s.idx = 3#3
  · by_cases hc : crcOutWord s = shiftInByte s.crcRx b
    · exact .inr (.inl ⟨h, hc, by unfold decTrailerByte; rw [if_pos h]; exact if_pos hc⟩)
    · exact .inr (.inr ⟨h, hc, by unfold decTrailerByte; rw [if_pos h]; exact if_neg hc⟩)
  · exact .inl ⟨h, by unfold decTrailerByte; rw [if_neg h]⟩

/-- A header byte: a length byte, a type byte, or the 8th byte with HEADER_CHECK. -/
theorem decHeaderByte_cases (b : Byte) (s : State) :
    (s.idx < 4#3 ∧ decHeaderByte b s = { s with len := shiftInByte s.len b, idx := s.idx + 1#3 })
      ∨ (4#3 ≤ s.idx ∧ s.idx ≠ 7#3
          ∧ decHeaderByte b s = { cover [b] s with typeCode := shiftInByte s.typeCode b, idx := s.idx + 1#3 })
      ∨ (s.idx = 7#3 ∧ decHeaderByte b s = headerCheck { cover [b] s with typeCode := shiftInByte s.typeCode b }) := by
  by_cases h4 : s.idx < 4#3
  · have h7 : s.idx ≠ 7#3 := by rintro h; rw [h] at h4; exact absurd h4 (by decide)
    exact .inl ⟨h4, by simp only [decHeaderByte, if_pos h4, if_neg h7]⟩
  · by_cases h7 : s.idx = 7#3
    · exact .inr (.inr ⟨h7, by simp only [decHeaderByte, if_neg h4, if_pos h7]; rfl⟩)
    · exact .inr (.inl ⟨BitVec.not_lt.1 h4, h7, by simp only [decHeaderByte, if_neg h4, if_neg h7]; rfl⟩)

/-! ## The queue takes no part -/

theorem headerCheck_inputs (s : State) (q : List HostEvent) :
    headerCheck { s with inputs := q } = { headerCheck s with inputs := q } := by
  rcases headerCheck_cases s with ⟨ha, e⟩ | ⟨ha, hl, e⟩ | ⟨ha, hl, e⟩ <;> rw [e]
  · exact if_neg (by simpa using ha)
  · exact (if_pos ha).trans (if_pos hl)
  · exact (if_pos ha).trans (if_neg hl)

theorem decHeaderByte_inputs (b : Byte) (s : State) (q : List HostEvent) :
    decHeaderByte b { s with inputs := q } = { decHeaderByte b s with inputs := q } := by
  rcases decHeaderByte_cases b s with ⟨h, e⟩ | ⟨h4, h7, e⟩ | ⟨h7, e⟩ <;> rw [e] <;>
    rcases decHeaderByte_cases b { s with inputs := q } with ⟨h', e'⟩ | ⟨h4', h7', e'⟩ | ⟨h7', e'⟩ <;> rw [e']
  · exact absurd h (BitVec.not_lt.2 h4')
  · rw [show s.idx = 7#3 from h7'] at h; exact absurd h (by decide)
  · exact absurd h' (BitVec.not_lt.2 h4)
  · rfl
  · exact absurd h7' h7
  · rw [show s.idx = 7#3 from h7] at h'; exact absurd h' (by decide)
  · exact absurd h7 h7'
  · have h : ({ cover [b] { s with inputs := q } with typeCode := shiftInByte s.typeCode b } : State)
        = { ({ cover [b] s with typeCode := shiftInByte s.typeCode b } : State) with inputs := q } := rfl
    rw [h, headerCheck_inputs]

theorem encByte_inputs (b : Byte) (s : State) (q : List HostEvent) :
    encByte b { s with inputs := q } = { encByte b s with inputs := q } := by
  rcases encByte_cases b s with ⟨h, e⟩ | ⟨h, e⟩ <;> rw [e]
  · exact if_pos h
  · exact if_neg h

theorem decPayloadByte_inputs (b : Byte) (s : State) (q : List HostEvent) :
    decPayloadByte b { s with inputs := q } = { decPayloadByte b s with inputs := q } := by
  rcases decPayloadByte_cases b s with ⟨h, e⟩ | ⟨h, e⟩ <;> rw [e]
  · exact if_pos h
  · exact if_neg h

theorem decTrailerByte_inputs (b : Byte) (s : State) (q : List HostEvent) :
    decTrailerByte b { s with inputs := q } = { decTrailerByte b s with inputs := q } := by
  rcases decTrailerByte_cases b s with ⟨h, e⟩ | ⟨h, hc, e⟩ | ⟨h, hc, e⟩ <;> rw [e]
  · exact if_neg h
  · exact (if_pos h).trans (if_pos hc)
  · exact (if_pos h).trans (if_neg hc)

theorem dinEffect_inputs (b : Byte) (s : State) (q : List HostEvent) :
    dinEffect b { s with inputs := q } = { dinEffect b s with inputs := q } := by
  unfold dinEffect
  dsimp only
  split
  · rfl
  · rfl
  · exact encByte_inputs b s q
  · split
    · exact decHeaderByte_inputs b s q
    · exact decPayloadByte_inputs b s q
    · exact decTrailerByte_inputs b s q

theorem encStartEffect_inputs (s : State) (q : List HostEvent) :
    encStartEffect { s with inputs := q } = { encStartEffect s with inputs := q } := by
  rcases encStartEffect_cases s with ⟨ha, e⟩ | ⟨ha, hl, e⟩ | ⟨ha, hl, e⟩ <;> rw [e]
  · exact if_neg (by simpa using ha)
  · exact (if_pos ha).trans (if_pos hl)
  · exact (if_pos ha).trans (if_neg hl)

/-- What is queued behind a transaction has no part in its effect (R76). -/
theorem effect_inputs (i : Instr) (s : State) (q : List HostEvent) :
    effect i { s with inputs := q } = { effect i s with inputs := q } := by
  cases i <;> first | rfl | skip
  case cmdCrcEnd => unfold effect; dsimp only; split <;> rfl
  case cmdDecEnd => unfold effect; dsimp only; split <;> rfl
  case cmdEncStart => exact encStartEffect_inputs s q
  case wrType => unfold effect writeUnlessOwned; dsimp only; split <;> rfl
  case wrLen => unfold effect writeUnlessOwned; dsimp only; split <;> rfl
  case wrDin => exact dinEffect_inputs _ _ _

end Sys2Proof.Machine
end

