-- ==== Sys2Proof/Laws/Din.lean ====
section
/-! SUPPORT. Everything a DIN byte can do, said once as a list of cases; proofs over all transactions split on it. -/

namespace Sys2Proof.Machine

/-- The cases of a DIN byte `b` in state `s` and the next state `t` of each (R165, R194, R221 to R224, R268). -/
inductive DinCase (b : Byte) (s t : State) : Prop
  | idle (m : s.mode = .idle) (e : t = seqerr s)
  | crc (m : s.mode = .crc) (e : t = crcByte b s)
  | encLast (m : s.mode = .enc) (h : s.cnt + 1#32 = s.len)
      (e : t = encFinish (countByte (cover [b] (emit [b] s))))
  | enc (m : s.mode = .enc) (h : s.cnt + 1#32 ≠ s.len) (e : t = countByte (cover [b] (emit [b] s)))
  | headerLength (m : s.mode = .dec) (p : s.phase = .hdr) (h : s.idx < 4#3) (h7 : s.idx ≠ 7#3)
      (e : t = { s with len := shiftInByte s.len b, idx := s.idx + 1#3 })
  | headerType (m : s.mode = .dec) (p : s.phase = .hdr) (h : 4#3 ≤ s.idx) (h7 : s.idx ≠ 7#3)
      (e : t = { cover [b] s with typeCode := shiftInByte s.typeCode b, idx := s.idx + 1#3 })
  | headerInvalid (m : s.mode = .dec) (p : s.phase = .hdr) (h7 : s.idx = 7#3)
      (a : tcAlpha (shiftInByte s.typeCode b) = false)
      (e : t = fail .invalidTypeCode { cover [b] s with typeCode := shiftInByte s.typeCode b, idx := 0#3 })
  | headerEmpty (m : s.mode = .dec) (p : s.phase = .hdr) (h7 : s.idx = 7#3)
      (a : tcAlpha (shiftInByte s.typeCode b) = true) (l : s.len = 0#32)
      (e : t = { cover [b] s with typeCode := shiftInByte s.typeCode b, idx := 0#3, phase := .trl })
  | headerPayload (m : s.mode = .dec) (p : s.phase = .hdr) (h7 : s.idx = 7#3)
      (a : tcAlpha (shiftInByte s.typeCode b) = true) (l : s.len ≠ 0#32)
      (e : t = { cover [b] s with typeCode := shiftInByte s.typeCode b, idx := 0#3, phase := .pay })
  | payloadLast (m : s.mode = .dec) (p : s.phase = .pay) (h : s.cnt + 1#32 = s.len)
      (e : t = { countByte (cover [b] s) with phase := .trl })
  | payload (m : s.mode = .dec) (p : s.phase = .pay) (h : s.cnt + 1#32 ≠ s.len) (e : t = countByte (cover [b] s))
  | trailer (m : s.mode = .dec) (p : s.phase = .trl) (h : s.idx ≠ 3#3)
      (e : t = { s with crcRx := shiftInByte s.crcRx b, idx := s.idx + 1#3 })
  | accepted (m : s.mode = .dec) (p : s.phase = .trl) (h : s.idx = 3#3) (c : crcOutWord s = shiftInByte s.crcRx b)
      (e : t = complete { s with crcRx := shiftInByte s.crcRx b, idx := 0#3 })
  | mismatch (m : s.mode = .dec) (p : s.phase = .trl) (h : s.idx = 3#3) (c : crcOutWord s ≠ shiftInByte s.crcRx b)
      (e : t = fail .checksumMismatch { s with crcRx := shiftInByte s.crcRx b, idx := 0#3 })

theorem dinCase (b : Byte) (s : State) : DinCase b s (dinEffect b s) := by
  unfold dinEffect
  cases hm : s.mode
  · exact .idle hm rfl
  · exact .crc hm rfl
  · rcases encByte_cases b s with ⟨h, e⟩ | ⟨h, e⟩
    · exact .encLast hm h e
    · exact .enc hm h e
  · cases hp : s.phase
    · rcases decHeaderByte_cases b s with ⟨h, e⟩ | ⟨h, h7, e⟩ | ⟨h7, e⟩
      · exact .headerLength hm hp h (by rintro h'; rw [h'] at h; exact absurd h (by decide)) e
      · exact .headerType hm hp h h7 e
      · rcases headerCheck_cases { cover [b] s with typeCode := shiftInByte s.typeCode b } with
          ⟨ha, e'⟩ | ⟨ha, hl, e'⟩ | ⟨ha, hl, e'⟩
        · exact .headerInvalid hm hp h7 ha (e.trans e')
        · exact .headerEmpty hm hp h7 ha hl (e.trans e')
        · exact .headerPayload hm hp h7 ha hl (e.trans e')
    · rcases decPayloadByte_cases b s with ⟨h, e⟩ | ⟨h, e⟩
      · exact .payloadLast hm hp h e
      · exact .payload hm hp h e
    · rcases decTrailerByte_cases b s with ⟨h, e⟩ | ⟨h, c, e⟩ | ⟨h, c, e⟩
      · exact .trailer hm hp h e
      · exact .accepted hm hp h c e
      · exact .mismatch hm hp h c e

end Sys2Proof.Machine
end

