-- ==== Sys2Proof/Laws/Encode.lean ====
section
/-! SUPPORT. The fields of an assembled T word, and what it decodes to (R101, R104). -/

namespace Sys2Proof

theorem getLsbD_tWord (rw : BitVec 1) (slot : Slot) (data : Word) (k : Nat) :
    (tWord rw slot data).getLsbD k
      = if k < 32 then data.getLsbD k else if k - 32 < 4 then slot.getLsbD (k - 32) else rw.getLsbD (k - 32 - 4) := by
  have h : (tWord rw slot data).getLsbD k = (rw ++ slot ++ data).getLsbD k := rfl
  rw [h, BitVec.getLsbD_append, BitVec.getLsbD_append]

theorem tWord_isWrite (rw : BitVec 1) (slot : Slot) (data : Word) :
    (tWord rw slot data).isWrite = rw.getLsbD 0 := by
  rw [TWord.isWrite, getLsbD_tWord]
  rfl

@[simp] theorem tWord_addr (rw : BitVec 1) (slot : Slot) (data : Word) : (tWord rw slot data).addr = slot := by
  apply BitVec.eq_of_getLsbD_eq
  intro k hk
  rw [TWord.addr, BitVec.getLsbD_extractLsb', getLsbD_tWord]
  simp [hk]

@[simp] theorem tWord_data (rw : BitVec 1) (slot : Slot) (data : Word) : (tWord rw slot data).data = data := by
  apply BitVec.eq_of_getLsbD_eq
  intro k hk
  rw [TWord.data, BitVec.getLsbD_extractLsb', getLsbD_tWord]
  simp [hk]

/-- A write's word decodes by its slot and data. -/
theorem decode_tWrite (slot : Slot) (data : Word) : decode (tWrite slot data) = decodeWrite slot data := by
  rw [decode, tWrite, tWord_isWrite, tWord_addr, tWord_data]
  rfl

/-- A read's word decodes by its slot. -/
theorem decode_tRead (slot : Slot) : decode (tRead slot) = decodeRead slot := by
  rw [decode, tRead, tWord_isWrite, tWord_addr]
  rfl

end Sys2Proof
end

