-- ==== Sys2Proof/Laws/Host.lean ====
section
/-! SUPPORT. What the host sees of one transaction: sending a word and reading a slot, in terms of `effect`. -/

namespace Sys2Proof.Machine

/-- Sending a word performs its transaction, with nothing returned yet, and leaves what was queued. -/
theorem hostSend_eq (w : TWord) (s : State) :
    hostSend w s = some (effect (decode w) { s with response := none }) := by
  simp only [hostSend, step, issueFirst, exec_eq_effect, takeInput]

/-- A transaction that is no read, sent after another: the response it finds is already absent. -/
theorem hostSendAll_cons (w : TWord) (ws : List TWord) (s : State) :
    hostSendAll (w :: ws) s = hostSendAll ws (effect (decode w) { s with response := none }) := by
  simp only [hostSendAll, hostSend_eq, Option.bind_some]

theorem hostSendAll_append (ws vs : List TWord) (s : State) :
    hostSendAll (ws ++ vs) s = (hostSendAll ws s).bind (hostSendAll vs) := by
  induction ws generalizing s with
  | nil => rfl
  | cons w ws ih => simp only [List.cons_append, hostSendAll_cons, ih]

/-- A `din` delivers its byte to the operation in progress. -/
theorem effect_dinWord (b : Byte) (s : State) : effect (decode (dinWord b)) s = dinEffect b s := by
  have h : decode (dinWord b) = .wrDin (zext32 b) := decode_tWrite 9 (zext32 b)
  rw [h, effect, dinByte_zext32]

/-- Reading a slot that answers: the value, and the state with only the response changed. -/
theorem hostRead_eq {slot : Slot} {s : State} {v : Word}
    (h : effect (decodeRead slot) { s with response := none } = respond v { s with response := none }) :
    hostRead slot s = some (v, { s with response := some v }) := by
  rw [hostRead, hostSend_eq, decode_tRead, h]
  rfl

end Sys2Proof.Machine
end

