-- ==== Sys2Proof/Laws/Invariant.lean ====
section
/-! SUPPORT. Small facts about the invariant of reachable states: what it does not depend on, and how its parts grow by a
byte. -/

namespace Sys2Proof.Machine

/-- The invariant depends on the twelve elements only. -/
theorem State.Inv.congr {s t : State} (h : s.SameElements t) (hi : s.Inv) : t.Inv := by
  obtain ⟨m, p, i, d, se, e, tc, l, cs, cr, c, o, r, q⟩ := s
  obtain ⟨m', p', i', d', se', e', tc', l', cs', cr', c', o', r', q'⟩ := t
  obtain ⟨h1, h2, h3, h4, h5, h6, h7, h8, h9, h10, h11, h12⟩ := h
  dsimp only at h1 h2 h3 h4 h5 h6 h7 h8 h9 h10 h11 h12
  subst h1 h2 h3 h4 h5 h6 h7 h8 h9 h10 h11 h12
  obtain ⟨a, b, c, d, e, f, g, h⟩ := hi
  exact ⟨a, b, c, d, e, (fun x y => let z := f x y; ⟨z.1, z.2, z.3, z.4, z.5⟩), g, h⟩

/-- SEQERR takes no part in the invariant. -/
theorem State.Inv.withSeqErr {s : State} (b : Bool) (hi : s.Inv) : ({ s with seqErr := b } : State).Inv := by
  obtain ⟨a, b, c, d, e, f, g, h⟩ := hi
  exact ⟨a, b, c, d, e, (fun x y => let z := f x y; ⟨z.1, z.2, z.3, z.4, z.5⟩), g, h⟩

/-- What the host has issued takes no part in the invariant. -/
theorem State.Inv.withInputs {s : State} (q : List HostEvent) (hi : s.Inv) : ({ s with inputs := q } : State).Inv :=
  State.Inv.congr (s := s) ⟨rfl, rfl, rfl, rfl, rfl, rfl, rfl, rfl, rfl, rfl, rfl, rfl⟩ hi

/-- In IDLE the invariant asks for the outcome alone. -/
theorem State.Inv.of_idle {s : State} (hm : s.mode = .idle) (h : s.done = true → s.err = .none) : s.Inv := by
  constructor <;> (try exact h) <;> (intro h'; rw [hm] at h'; first | exact absurd rfl h' | cases h')

/-- A register of `n` big-endian bytes takes the next one. -/
theorem shiftInByte_lt (r : Word) (b : Byte) (n : Nat) (h : r.toNat < 2 ^ (8 * n)) :
    (shiftInByte r b).toNat < 2 ^ (8 * (n + 1)) := by
  by_cases hn : n < 4
  · have hb := b.isLt
    have : r.toNat < 2 ^ 24 := lt_of_lt_of_le h (Nat.pow_le_pow_right (by decide) (by omega))
    rw [toNat_shiftInByte r b this]
    have e : 2 ^ (8 * (n + 1)) = 2 ^ (8 * n) * 256 := by rw [show 8 * (n + 1) = 8 * n + 8 by ring, Nat.pow_add]
    omega
  · exact lt_of_lt_of_le (shiftInByte r b).isLt (Nat.pow_le_pow_right (by decide) (by omega))

/-- A counter below another does not wrap. -/
theorem toNat_succ_of_lt {c l : Word} (h : c < l) : (c + 1#32).toNat = c.toNat + 1 := by
  have h3 : c.toNat < l.toNat := h
  have h4 := l.isLt
  simp [BitVec.toNat_add]
  omega

/-- A counter below LEN that does not reach it stays below it. -/
theorem succ_lt_of_lt {c l : Word} (h : c < l) (h2 : c + 1#32 ≠ l) : c + 1#32 < l := by
  have h3 : c.toNat < l.toNat := h
  have h5 := toNat_succ_of_lt h
  have h6 : (c + 1#32).toNat ≠ l.toNat := fun e => h2 (BitVec.eq_of_toNat_eq e)
  show (c + 1#32).toNat < l.toNat
  omega

/-- One more payload byte is covered and counted. -/
theorem State.covers_append {s t : State} {p : List Byte} (b : Byte) (h : s.covers p) (hl : s.cnt < s.len)
    (h1 : t.cnt = s.cnt + 1#32) (h2 : t.typeCode = s.typeCode) (h3 : t.crcState = crc8 s.crcState b) :
    t.covers (p ++ [b]) := by
  obtain ⟨a, c⟩ := h
  refine ⟨by rw [h1, toNat_succ_of_lt hl]; simp [a], ?_⟩
  rw [h3, c, h2, ← List.append_assoc, crcFold_concat]

end Sys2Proof.Machine
end

