-- ==== Sys2Proof/Laws/PerInstr.lean ====
section
/-! SUPPORT. Statements about every instruction as syntax, one lemma per constructor. The family InOwnRow: the word of a
well-formed instruction belongs to the opcode table's row of that instruction (R104, R105). -/

namespace Sys2Proof.Laws.InOwnRow

/-- The word of a well-formed instruction belongs to its row. -/
def Statement (i : Instr) : Prop :=
  i.wf = true → ∃ r, opcodeTable[i.tableRow]? = some r ∧ r.accepts (encode i) = true

theorem append_and_append {m n : Nat} (a c : BitVec m) (b d : BitVec n) :
    (a ++ b) &&& (c ++ d) = (a &&& c) ++ (b &&& d) := by
  ext k hk
  simp only [BitVec.getElem_and, BitVec.getElem_append]
  split <;> simp [*]

/-- Under the mask that keeps rw and addr, a word is the word with data 0. -/
theorem tWord_and_slotMask (rw : BitVec 1) (slot : Slot) (data : Word) :
    tWord rw slot data &&& 0x1F00000000 = tWord rw slot 0 := by
  have h : (0x1F00000000 : TWord) = (BitVec.allOnes 1 ++ BitVec.allOnes 4) ++ 0#32 := by decide
  rw [h]
  show (rw ++ slot ++ data) &&& _ = _
  rw [append_and_append, append_and_append, BitVec.and_allOnes, BitVec.and_allOnes, BitVec.and_zero]
  rfl

/-- A row that fixes rw and addr accepts every data. -/
theorem accepts_of_slot {r : OpcodeRow} {rw : BitVec 1} {slot : Slot} (data : Word)
    (hm : r.mask = 0x1F00000000) (hp : tWord rw slot 0 = r.pattern) : r.accepts (tWord rw slot data) = true := by
  rw [OpcodeRow.accepts, hm, tWord_and_slotMask, hp]
  exact decide_eq_true rfl

/-- A row that fixes rw and some bits of addr accepts every data. -/
theorem accepts_of_mask {r : OpcodeRow} {rw : BitVec 1} {slot : Slot} (data : Word)
    (hm : 0x1F00000000 &&& r.mask = r.mask) (hp : tWord rw slot 0 &&& r.mask = r.pattern) :
    r.accepts (tWord rw slot data) = true := by
  rw [OpcodeRow.accepts, ← hm, ← BitVec.and_assoc, tWord_and_slotMask, hp]
  exact decide_eq_true rfl

/-- Slots 10 and 11 under the mask of the rows _10_11. -/
theorem slot1011_pattern (rw : BitVec 1) (slot : Slot) (h : isSlot1011 slot = true) :
    tWord rw slot 0 &&& 0x1E00000000 = tWord rw 10 0 := by
  revert rw slot; decide

/-- Slots 12 to 15 under the mask of the rows _12_15. -/
theorem slot1215_pattern (rw : BitVec 1) (slot : Slot) (h : isSlot1215 slot = true) :
    tWord rw slot 0 &&& 0x1C00000000 = tWord rw 12 0 := by
  revert rw slot; decide

theorem cmdCrcInit : Statement .cmdCrcInit :=
  fun _ => ⟨⟨"WR_CMD_CRC_INIT", 0x1000000001, 0x1FFFFFFFFF⟩, rfl, by decide⟩

theorem cmdCrcEnd : Statement .cmdCrcEnd :=
  fun _ => ⟨⟨"WR_CMD_CRC_END", 0x1000000002, 0x1FFFFFFFFF⟩, rfl, by decide⟩

theorem cmdEncStart : Statement .cmdEncStart :=
  fun _ => ⟨⟨"WR_CMD_ENC_START", 0x1000000003, 0x1FFFFFFFFF⟩, rfl, by decide⟩

theorem cmdDecStart : Statement .cmdDecStart :=
  fun _ => ⟨⟨"WR_CMD_DEC_START", 0x1000000004, 0x1FFFFFFFFF⟩, rfl, by decide⟩

theorem cmdDecEnd : Statement .cmdDecEnd :=
  fun _ => ⟨⟨"WR_CMD_DEC_END", 0x1000000005, 0x1FFFFFFFFF⟩, rfl, by decide⟩

theorem cmdAbort : Statement .cmdAbort :=
  fun _ => ⟨⟨"WR_CMD_ABORT", 0x1000000006, 0x1FFFFFFFFF⟩, rfl, by decide⟩

theorem cmdClear : Statement .cmdClear :=
  fun _ => ⟨⟨"WR_CMD_CLEAR", 0x1000000007, 0x1FFFFFFFFF⟩, rfl, by decide⟩

theorem cmdRsvd (data : Word) : Statement (.cmdRsvd data) :=
  fun _ => ⟨⟨"WR_CMD_RSVD", 0x1000000000, 0x1F00000000⟩, rfl, accepts_of_slot data rfl (by decide)⟩

theorem wrStatus (data : Word) : Statement (.wrStatus data) :=
  fun _ => ⟨⟨"WR_STATUS", 0x1100000000, 0x1F00000000⟩, rfl, accepts_of_slot data rfl (by decide)⟩

theorem wrType (data : Word) : Statement (.wrType data) :=
  fun _ => ⟨⟨"WR_TYPE", 0x1200000000, 0x1F00000000⟩, rfl, accepts_of_slot data rfl (by decide)⟩

theorem wrLen (data : Word) : Statement (.wrLen data) :=
  fun _ => ⟨⟨"WR_LEN", 0x1300000000, 0x1F00000000⟩, rfl, accepts_of_slot data rfl (by decide)⟩

theorem wrTcprop (data : Word) : Statement (.wrTcprop data) :=
  fun _ => ⟨⟨"WR_TCPROP", 0x1400000000, 0x1F00000000⟩, rfl, accepts_of_slot data rfl (by decide)⟩

theorem wrCrcState (data : Word) : Statement (.wrCrcState data) :=
  fun _ => ⟨⟨"WR_CRC_STATE", 0x1500000000, 0x1F00000000⟩, rfl, accepts_of_slot data rfl (by decide)⟩

theorem wrCrcOut (data : Word) : Statement (.wrCrcOut data) :=
  fun _ => ⟨⟨"WR_CRC_OUT", 0x1600000000, 0x1F00000000⟩, rfl, accepts_of_slot data rfl (by decide)⟩

theorem wrCrcRx (data : Word) : Statement (.wrCrcRx data) :=
  fun _ => ⟨⟨"WR_CRC_RX", 0x1700000000, 0x1F00000000⟩, rfl, accepts_of_slot data rfl (by decide)⟩

theorem wrCnt (data : Word) : Statement (.wrCnt data) :=
  fun _ => ⟨⟨"WR_CNT", 0x1800000000, 0x1F00000000⟩, rfl, accepts_of_slot data rfl (by decide)⟩

theorem wrDin (data : Word) : Statement (.wrDin data) :=
  fun _ => ⟨⟨"WR_DIN", 0x1900000000, 0x1F00000000⟩, rfl, accepts_of_slot data rfl (by decide)⟩

theorem wrRsvd1011 (slot : Slot) (data : Word) : Statement (.wrRsvd1011 slot data) :=
  fun h => ⟨⟨"WR_RSVD_10_11", 0x1A00000000, 0x1E00000000⟩, rfl,
    accepts_of_mask data (by decide) ((slot1011_pattern 1 slot h).trans (by decide))⟩

theorem wrRsvd1215 (slot : Slot) (data : Word) : Statement (.wrRsvd1215 slot data) :=
  fun h => ⟨⟨"WR_RSVD_12_15", 0x1C00000000, 0x1C00000000⟩, rfl,
    accepts_of_mask data (by decide) ((slot1215_pattern 1 slot h).trans (by decide))⟩

theorem rdCmd : Statement .rdCmd :=
  fun _ => ⟨⟨"RD_CMD", 0x0000000000, 0x1F00000000⟩, rfl, by decide⟩

theorem rdStatus : Statement .rdStatus :=
  fun _ => ⟨⟨"RD_STATUS", 0x0100000000, 0x1F00000000⟩, rfl, by decide⟩

theorem rdType : Statement .rdType :=
  fun _ => ⟨⟨"RD_TYPE", 0x0200000000, 0x1F00000000⟩, rfl, by decide⟩

theorem rdLen : Statement .rdLen :=
  fun _ => ⟨⟨"RD_LEN", 0x0300000000, 0x1F00000000⟩, rfl, by decide⟩

theorem rdTcprop : Statement .rdTcprop :=
  fun _ => ⟨⟨"RD_TCPROP", 0x0400000000, 0x1F00000000⟩, rfl, by decide⟩

theorem rdCrcState : Statement .rdCrcState :=
  fun _ => ⟨⟨"RD_CRC_STATE", 0x0500000000, 0x1F00000000⟩, rfl, by decide⟩

theorem rdCrcOut : Statement .rdCrcOut :=
  fun _ => ⟨⟨"RD_CRC_OUT", 0x0600000000, 0x1F00000000⟩, rfl, by decide⟩

theorem rdCrcRx : Statement .rdCrcRx :=
  fun _ => ⟨⟨"RD_CRC_RX", 0x0700000000, 0x1F00000000⟩, rfl, by decide⟩

theorem rdCnt : Statement .rdCnt :=
  fun _ => ⟨⟨"RD_CNT", 0x0800000000, 0x1F00000000⟩, rfl, by decide⟩

theorem rdDin : Statement .rdDin :=
  fun _ => ⟨⟨"RD_DIN", 0x0900000000, 0x1F00000000⟩, rfl, by decide⟩

theorem rdRsvd1011 (slot : Slot) : Statement (.rdRsvd1011 slot) :=
  fun h => ⟨⟨"RD_RSVD_10_11", 0x0A00000000, 0x1E00000000⟩, rfl,
    accepts_of_mask 0 (by decide) ((slot1011_pattern 0 slot h).trans (by decide))⟩

theorem rdRsvd1215 (slot : Slot) : Statement (.rdRsvd1215 slot) :=
  fun h => ⟨⟨"RD_RSVD_12_15", 0x0C00000000, 0x1C00000000⟩, rfl,
    accepts_of_mask 0 (by decide) ((slot1215_pattern 0 slot h).trans (by decide))⟩

end Sys2Proof.Laws.InOwnRow
end

