-- ==== Sys2Proof/Tests/Slice0.lean ====
section
/-! SUPPORT. The author's tests: ill-formed terms, words written out from the encoding tables, one small step or two per
instruction, and a witness for the hypotheses of every statement that has some. Expected values are the examples of the
rules named and the vectors of 95_test_vectors.md. -/

namespace Sys2Proof.Machine

/-! ## Helpers -/

/-- What `f` shows of the next state. -/
def seen {α : Type} (r : Result) (f : State → α) : Option α :=
  match r with
  | .next t => some (f t)
  | .fault _ => none
  | .refused _ => none

/-- CRC mode, nothing accumulated. -/
def crcState0 : State := { State.reset with mode := .crc }

/-- ENC mode with TYPE = "ruSt", LEN = 5 and the bytes `p` already taken. -/
def encState (p : List Byte) : State :=
  { State.reset with
    mode := .enc, phase := .pay, typeCode := 0x72755374, len := 5, cnt := BitVec.ofNat 32 p.length,
    crcState := crcFold crcInitial (typeBytes 0x72755374 ++ p), out := be32 5 ++ typeBytes 0x72755374 ++ p }

/-- DEC mode, `idx` header bytes taken. -/
def decHeader (idx : BitVec 3) (len typeCode : Word) : State :=
  { State.reset with
    mode := .dec, idx := idx, len := len, typeCode := typeCode,
    crcState := crcFold crcInitial ((typeBytes typeCode).drop (8 - idx.toNat)) }

/-- DEC mode in the payload of a "ruSt" frame of length 5, the bytes `p` taken. -/
def decPayload (p : List Byte) : State :=
  { State.reset with
    mode := .dec, phase := .pay, typeCode := 0x72755374, len := 5, cnt := BitVec.ofNat 32 p.length,
    crcState := crcFold crcInitial (typeBytes 0x72755374 ++ p) }

/-- DEC mode in the trailer of the "ruSt" frame with payload "hello". -/
def decTrailer (idx : BitVec 3) (crcRx : Word) : State :=
  { State.reset with
    mode := .dec, phase := .trl, idx := idx, typeCode := 0x72755374, len := 5, cnt := 5, crcRx := crcRx,
    crcState := crcFold crcInitial (typeBytes 0x72755374 ++ [0x68, 0x65, 0x6C, 0x6C, 0x6F]) }

/-- The frame of IEND without payload (R193). -/
def iendFrame : List Byte := [0x00, 0x00, 0x00, 0x00, 0x49, 0x45, 0x4E, 0x44, 0xAE, 0x42, 0x60, 0x82]

/-! ## WellFormed refuses ill-formed terms -/

theorem test_wf_refuses_command_word_as_reserved :
    (Instr.cmdRsvd 1).wf = false ∧ (Instr.cmdRsvd 7).wf = false ∧ (Instr.cmdRsvd 0).wf = true
      ∧ (Instr.cmdRsvd 8).wf = true := by decide

theorem test_wf_refuses_slot_of_another_row :
    (Instr.wrRsvd1011 12 0).wf = false ∧ (Instr.wrRsvd1011 9 0).wf = false ∧ (Instr.wrRsvd1215 11 0).wf = false
      ∧ (Instr.rdRsvd1011 12).wf = false ∧ (Instr.rdRsvd1215 11).wf = false := by decide

/-! ## Decoding, from the fields of R101 and the codes of R103 and R104 -/

theorem test_decode_commands :
    decode (1#1 ++ 0b0000#4 ++ 0x00000001#32) = .cmdCrcInit ∧ decode (1#1 ++ 0b0000#4 ++ 0x00000002#32) = .cmdCrcEnd
      ∧ decode (1#1 ++ 0b0000#4 ++ 0x00000003#32) = .cmdEncStart
      ∧ decode (1#1 ++ 0b0000#4 ++ 0x00000004#32) = .cmdDecStart
      ∧ decode (1#1 ++ 0b0000#4 ++ 0x00000005#32) = .cmdDecEnd
      ∧ decode (1#1 ++ 0b0000#4 ++ 0x00000006#32) = .cmdAbort
      ∧ decode (1#1 ++ 0b0000#4 ++ 0x00000007#32) = .cmdClear
      ∧ decode (1#1 ++ 0b0000#4 ++ 0x00000101#32) = .cmdRsvd 0x101 := by decide

theorem test_decode_writes :
    decode (1#1 ++ 0b0001#4 ++ 0x80000001#32) = .wrStatus 0x80000001
      ∧ decode (1#1 ++ 0b0010#4 ++ 0x52755374#32) = .wrType 0x52755374
      ∧ decode (1#1 ++ 0b0011#4 ++ 0x00000005#32) = .wrLen 5
      ∧ decode (1#1 ++ 0b0100#4 ++ 0x00000001#32) = .wrTcprop 1
      ∧ decode (1#1 ++ 0b0101#4 ++ 0x00000001#32) = .wrCrcState 1
      ∧ decode (1#1 ++ 0b0110#4 ++ 0x00000001#32) = .wrCrcOut 1
      ∧ decode (1#1 ++ 0b0111#4 ++ 0x00000001#32) = .wrCrcRx 1 ∧ decode (1#1 ++ 0b1000#4 ++ 0x00000001#32) = .wrCnt 1
      ∧ decode (1#1 ++ 0b1001#4 ++ 0x00000149#32) = .wrDin 0x149
      ∧ decode (1#1 ++ 0b1010#4 ++ 0x00000001#32) = .wrRsvd1011 10 1
      ∧ decode (1#1 ++ 0b1011#4 ++ 0x00000001#32) = .wrRsvd1011 11 1
      ∧ decode (1#1 ++ 0b1100#4 ++ 0x00000001#32) = .wrRsvd1215 12 1
      ∧ decode (1#1 ++ 0b1111#4 ++ 0x00000001#32) = .wrRsvd1215 15 1 := by decide

theorem test_decode_reads :
    decode (0#1 ++ 0b0000#4 ++ 0#32) = .rdCmd ∧ decode (0#1 ++ 0b0001#4 ++ 0#32) = .rdStatus
      ∧ decode (0#1 ++ 0b0010#4 ++ 0#32) = .rdType ∧ decode (0#1 ++ 0b0011#4 ++ 0#32) = .rdLen
      ∧ decode (0#1 ++ 0b0100#4 ++ 0#32) = .rdTcprop ∧ decode (0#1 ++ 0b0101#4 ++ 0#32) = .rdCrcState
      ∧ decode (0#1 ++ 0b0110#4 ++ 0#32) = .rdCrcOut ∧ decode (0#1 ++ 0b0111#4 ++ 0#32) = .rdCrcRx
      ∧ decode (0#1 ++ 0b1000#4 ++ 0#32) = .rdCnt ∧ decode (0#1 ++ 0b1001#4 ++ 0#32) = .rdDin
      ∧ decode (0#1 ++ 0b1010#4 ++ 0#32) = .rdRsvd1011 10 ∧ decode (0#1 ++ 0b1011#4 ++ 0#32) = .rdRsvd1011 11
      ∧ decode (0#1 ++ 0b1100#4 ++ 0#32) = .rdRsvd1215 12 ∧ decode (0#1 ++ 0b1111#4 ++ 0#32) = .rdRsvd1215 15 := by
  decide

/-- A read's data field is not decoded (R107). -/
theorem test_decode_read_ignores_data : decode (0#1 ++ 0b0001#4 ++ 0xDEADBEEF#32) = .rdStatus := by decide

/-- Format T has 37 bits and no other length (R100). -/
theorem test_decode_table_word :
    decodeTableWord 37 0x1272755374 = some (.wrType 0x72755374) ∧ decodeTableWord 40 0x1000000007 = some .cmdClear
      ∧ decodeTableWord 40 0x2000000007 = none ∧ decodeNat 0x2000000000 = .error .widerThanT := by decide

/-! ## Checksum and type codes (95_test_vectors.md sections 1 and 2) -/

theorem test_checksum_vectors :
    checksum [] = 0x00000000 ∧ checksum [0x49, 0x45, 0x4E, 0x44] = 0xAE426082
      ∧ checksum [0x31, 0x32, 0x33, 0x34, 0x35, 0x36, 0x37, 0x38, 0x39] = 0xCBF43926 := by decide +kernel

/-- The polynomial in normal form is the bit reversal of the one the byte step uses (R160). -/
theorem test_polynomial_reflection : crcPolyNormal.reverse = crcPolyReflected := by decide +kernel

theorem test_byte_class_boundaries :
    alpha 0x40 = false ∧ upper 0x41 = true ∧ upper 0x5A = true ∧ alpha 0x5B = false ∧ alpha 0x60 = false
      ∧ lower 0x61 = true ∧ lower 0x7A = true ∧ alpha 0x7B = false ∧ alpha 0x80 = false ∧ alpha 0xFF = false := by
  decide

/-! ## One step of each instruction -/

theorem test_crc_init :
    seen (exec .cmdCrcInit { decHeader 3 0 0 with err := .truncatedInput }) (fun t => (statusWord t, crcOutWord t))
      = some (0x00000001, 0x00000000) := by decide +kernel

theorem test_crc_end :
    seen (exec .cmdCrcEnd crcState0) statusWord = some 0x00000100
      ∧ seen (exec .cmdCrcEnd State.reset) statusWord = some 0x00000200 := by decide +kernel

theorem test_enc_start :
    seen (exec .cmdEncStart { State.reset with typeCode := 0x49454E44 }) (fun t => (t.out, statusWord t))
      = some (iendFrame, 0x00000108) := by decide +kernel

/-- ENC_START straight after reset fails with INVALID_TYPE_CODE and emits nothing (R333). -/
theorem test_enc_start_after_reset :
    seen (exec .cmdEncStart State.reset) (fun t => (t.out, statusWord t)) = some ([], 0x00001000) := by decide +kernel

theorem test_dec_start :
    seen (exec .cmdDecStart (decTrailer 2 7)) (fun t => (statusWord t, [t.len, t.typeCode, t.crcRx, t.cnt]))
      = some (0x00000003, [0, 0, 0, 0]) := by decide +kernel

theorem test_dec_end :
    seen (exec .cmdDecEnd (decHeader 5 0 0)) statusWord = some 0x00003050
      ∧ seen (exec .cmdDecEnd State.reset) statusWord = some 0x00000200 := by decide +kernel

theorem test_abort : seen (exec .cmdAbort (decHeader 3 0 0)) statusWord = some 0x00000030 := by decide +kernel

theorem test_clear :
    seen (exec .cmdClear { State.reset with seqErr := true }) statusWord = some 0x00000000 := by decide +kernel

theorem test_cmd_rsvd : seen (exec (.cmdRsvd 0) State.reset) statusWord = some 0x00000200 := by decide +kernel

theorem test_wr_type :
    seen (exec (.wrType 0x52753174) State.reset) (fun t => (t.typeCode, tcpropWord t.typeCode))
        = some (0x52753174, 0x00000012)
      ∧ seen (exec (.wrType 0) (encState [])) (fun t => (t.typeCode, t.seqErr)) = some (0x72755374, true) := by
  decide +kernel

theorem test_wr_len :
    seen (exec (.wrLen 5) crcState0) (fun t => (t.len, t.seqErr)) = some (5, false)
      ∧ seen (exec (.wrLen 9) (decPayload [])) (fun t => (t.len, t.seqErr)) = some (5, true) := by decide +kernel

/-- R165, R194 and R268: a byte in CRC mode, in ENC mode and in IDLE. -/
theorem test_wr_din :
    seen (exec (.wrDin 0xFFFFFF49) crcState0) (fun t => (t.crcState, crcOutWord t, t.cnt))
        = some (0x22FDE946, 0xDD0216B9, 1)
      ∧ seen (exec (.wrDin 0x68) (encState [])) (fun t => (t.crcState, t.out.drop 8, t.cnt))
        = some (0x80EE2E92, [0x68], 1)
      ∧ seen (exec (.wrDin 0x41) State.reset) (fun t => (statusWord t, t.crcState)) = some (0x00000200, 0xFFFFFFFF) := by
  decide +kernel

/-- R221, R223 and R224: a byte in each phase of DEC mode; the last one is accepted, and 0xEF instead is a mismatch. -/
theorem test_wr_din_decode :
    seen (exec (.wrDin 5) (decHeader 3 0 0)) (fun t => (t.len, t.idx)) = some (5, 4)
      ∧ seen (exec (.wrDin 0x6F) (decPayload [0x68, 0x65, 0x6C, 0x6C])) (fun t => (t.phase, t.cnt)) = some (.trl, 5)
      ∧ seen (exec (.wrDin 0x6F) (decTrailer 3 0xAE508D)) (fun t => (t.crcRx, crcOutWord t, statusWord t))
        = some (0xAE508D6F, 0xAE508D6F, 0x00000108)
      ∧ seen (exec (.wrDin 0xEF) (decTrailer 3 0xAE508D)) (fun t => (t.crcRx, crcOutWord t, statusWord t))
        = some (0xAE508DEF, 0xAE508D6F, 0x00002008) := by decide +kernel

/-- R265 and R266: a write that names no operation sets SEQERR and leaves the slot's value. -/
theorem test_wr_ignored :
    seen (exec (.wrStatus 1) crcState0) statusWord = some 0x00000201
      ∧ seen (exec (.wrTcprop 1) State.reset) (fun t => (statusWord t, t.typeCode)) = some (0x00000200, 0)
      ∧ seen (exec (.wrCrcState 0) State.reset) (fun t => (statusWord t, t.crcState)) = some (0x00000200, 0xFFFFFFFF)
      ∧ seen (exec (.wrCrcOut 1) State.reset) (fun t => (statusWord t, t.crcState)) = some (0x00000200, 0xFFFFFFFF)
      ∧ seen (exec (.wrCrcRx 1) State.reset) (fun t => (statusWord t, t.crcRx)) = some (0x00000200, 0)
      ∧ seen (exec (.wrCnt 1) State.reset) (fun t => (statusWord t, t.cnt)) = some (0x00000200, 0)
      ∧ seen (exec (.wrRsvd1011 11 1) State.reset) statusWord = some 0x00000200
      ∧ seen (exec (.wrRsvd1215 12 1) State.reset) statusWord = some 0x00000200 := by decide +kernel

/-- What each read returns (R137, R139, R167, R168, R192, R226, R262 to R264, R266). -/
theorem test_reads :
    seen (exec .rdCmd crcState0) (·.response) = some (some 0x00000000)
      ∧ seen (exec .rdStatus (decHeader 4 5 0)) (·.response) = some (some 0x00000043)
      ∧ seen (exec .rdType (decTrailer 0 0)) (·.response) = some (some 0x72755374)
      ∧ seen (exec .rdLen (decTrailer 0 0)) (·.response) = some (some 0x00000005)
      ∧ seen (exec .rdTcprop { State.reset with typeCode := 0x52755374 }) (·.response) = some (some 0x0000003B)
      ∧ seen (exec .rdCrcState State.reset) (·.response) = some (some 0xFFFFFFFF)
      ∧ seen (exec .rdCrcOut (decTrailer 0 0)) (·.response) = some (some 0xAE508D6F)
      ∧ seen (exec .rdCrcRx (decTrailer 2 0xAE50)) (·.response) = some (some 0x0000AE50)
      ∧ seen (exec .rdCnt (decTrailer 0 0)) (·.response) = some (some 0x00000005)
      ∧ seen (exec .rdDin crcState0) (·.response) = some (some 0x00000000)
      ∧ seen (exec (.rdRsvd1011 10) State.reset) (·.response) = some (some 0x00000000)
      ∧ seen (exec (.rdRsvd1215 15) State.reset) (·.response) = some (some 0x00000000) := by decide +kernel

/-! ## States of the invariant in every mode -/

theorem witness_inv_crc : crcState0.Inv := by
  constructor <;> intro h <;> first | exact absurd h (by decide) | decide

theorem witness_inv_enc (p : List Byte) (hp : p.length < 5) : (encState p).Inv := by
  have hc : (BitVec.ofNat 32 p.length).toNat = p.length := by simp; omega
  have hlt : BitVec.ofNat 32 p.length < 5#32 := by
    show (BitVec.ofNat 32 p.length).toNat < 5
    omega
  refine ⟨(fun h => by cases h), fun _ => ⟨rfl, rfl⟩, (fun h => by cases h), fun _ => ⟨rfl, rfl, hlt, ?_⟩,
    fun _ => ⟨[], p, rfl, hc.symm, rfl⟩, (fun h => by cases h), (fun h => by cases h), (fun h => by cases h)⟩
  show tcAlpha 0x72755374 = true
  decide +kernel

theorem witness_inv_dec_header : (decHeader 7 5 0x727553).Inv := by
  refine ⟨(fun h => by cases h), fun _ => ⟨rfl, rfl⟩, (fun h => by cases h), (fun h => by cases h), (fun h => by cases h),
    fun _ _ => ⟨rfl, rfl, by decide +kernel, by decide +kernel, by decide +kernel⟩, (fun _ h => by cases h), (fun _ h => by cases h)⟩

theorem witness_inv_dec_payload (p : List Byte) (hp : p.length < 5) : (decPayload p).Inv := by
  have hc : (BitVec.ofNat 32 p.length).toNat = p.length := by simp; omega
  have hlt : BitVec.ofNat 32 p.length < 5#32 := by
    show (BitVec.ofNat 32 p.length).toNat < 5
    omega
  exact ⟨(fun h => by cases h), fun _ => ⟨rfl, rfl⟩, (fun h => by cases h), (fun h => by cases h), (fun h => by cases h),
    (fun _ h => by cases h), fun _ _ => ⟨rfl, hlt, rfl, (show tcAlpha 0x72755374 = true by decide +kernel), p, hc.symm, rfl⟩, (fun _ h => by cases h)⟩

theorem witness_inv_dec_trailer : (decTrailer 3 0xAE508D).Inv := by
  refine ⟨(fun h => by cases h), fun _ => ⟨rfl, rfl⟩, (fun h => by cases h), (fun h => by cases h), (fun h => by cases h),
    (fun _ h => by cases h), (fun _ h => by cases h),
    fun _ _ => ⟨by decide +kernel, rfl, by decide +kernel, by decide +kernel, [0x68, 0x65, 0x6C, 0x6C, 0x6F], rfl,
      by decide +kernel⟩⟩

/-! ## Witnesses: hypotheses of the statements, met at concrete states (boundary values of each clause) -/

/-- Any transaction has a next state: the hypothesis `exec i s = .next t`. -/
theorem witness_exec_next (i : Instr) (s : State) : ∃ t, exec i s = .next t := ⟨effect i s, exec_eq_effect i s⟩

/-- ResetSignalSetsEveryElement, OutIsAppendOnly (reset), during an encode that has emitted. -/
theorem witness_ResetSignalSetsEveryElement :
    ({ encState [0x68] with inputs := [.rst] } : State).inputs = .rst :: []
      ∧ seen (step { encState [0x68] with inputs := [.rst] }) (fun t => (t.mode, t.out, t.len)) = some (.idle, [], 0) := by
  decide +kernel

/-- StepPerformsDecodedTransaction: nothing issued, the reset signal, a word, the word of a well-formed instruction. -/
theorem witness_StepPerformsDecodedTransaction :
    seen (step State.reset) (·.mode) = some .idle
      ∧ seen (step { crcState0 with inputs := [.rst, .txn 0] }) (fun t => (t.mode, t.inputs)) = some (.idle, [.txn 0])
      ∧ seen (step { State.reset with inputs := [.txn 0x1000000004] }) (fun t => (t.mode, t.inputs)) = some (.dec, [])
      ∧ (Instr.wrLen 5).wf = true
      ∧ seen (step { State.reset with inputs := [.txn (encode (.wrLen 5))] }) (·.len) = some 5 := by decide +kernel

theorem witness_FetchWordRunsItsTransaction :
    (Instr.wrRsvd1215 15 1).wf = true
      ∧ seen (step (State.reset.withFetchWord 37 0x1F00000001)) statusWord = some 0x00000200
      ∧ seen (step (State.reset.withFetchWord 40 0x1000000001)) statusWord = some 0x00000001 := by decide +kernel

/-- CommandWordSelectsCommand: words whose data lies at both ends of the commands and beside them. -/
theorem witness_CommandWordSelectsCommand :
    ((0x1000000001 : TWord).isWrite = true ∧ (0x1000000001 : TWord).addr = 0 ∧ (0x1000000001 : TWord).data = 1)
      ∧ ((0x1000000007 : TWord).data = 7 ∧ decode 0x1000000007 = .cmdClear)
      ∧ ((0x1000000000 : TWord).data = 0 ∧ decode 0x1000000000 = .cmdRsvd 0)
      ∧ (7 < (0x1000000008 : TWord).data ∧ decode 0x1000000008 = .cmdRsvd 8)
      ∧ (7 < (0x10FFFFFFFF : TWord).data ∧ decode 0x10FFFFFFFF = .cmdRsvd 0xFFFFFFFF) := by decide

/-- SlotSelectsTransaction: the slots where the clauses of the table meet, as writes and as reads. -/
theorem witness_SlotSelectsTransaction :
    ((0x1900000000 : TWord).isWrite = true ∧ (0x1900000000 : TWord).addr = 9 ∧ decode 0x1900000000 = .wrDin 0)
      ∧ ((0x1B00000000 : TWord).addr = 11 ∧ decode 0x1B00000000 = .wrRsvd1011 11 0)
      ∧ (12 ≤ (0x1C00000000 : TWord).addr ∧ decode 0x1C00000000 = .wrRsvd1215 12 0)
      ∧ ((0x00FFFFFFFF : TWord).isWrite = false ∧ (0x00FFFFFFFF : TWord).addr = 0 ∧ decode 0x00FFFFFFFF = .rdCmd)
      ∧ ((0x0A00000000 : TWord).addr = 10 ∧ decode 0x0A00000000 = .rdRsvd1011 10)
      ∧ (12 ≤ (0x0F00000000 : TWord).addr ∧ decode 0x0F00000000 = .rdRsvd1215 15) := by decide

theorem witness_DecodeEncodeAgree :
    (Instr.cmdRsvd 0xFFFFFFFF).wf = true ∧ decode (encode (.cmdRsvd 0xFFFFFFFF)) = .cmdRsvd 0xFFFFFFFF
      ∧ (Instr.rdRsvd1215 15).wf = true ∧ decode (encode (.rdRsvd1215 15)) = .rdRsvd1215 15 := by decide

theorem witness_EncodeDecodeIsCanonical :
    (0x1FFFFFFFFF : TWord).isWrite = true ∧ encode (decode 0x1FFFFFFFFF) = 0x1FFFFFFFFF
      ∧ (0x0FFFFFFFFF : TWord).isWrite = false ∧ encode (decode 0x0FFFFFFFFF) = 0x0F00000000 := by decide

/-- EveryWordSelectsOneRow: a word its own row accepts, and the command word that row 7 accepts too. -/
theorem witness_EveryWordSelectsOneRow :
    opcodeTable[30]?.map (·.accepts 0x0F00000000) = some true
      ∧ opcodeTable[7]?.map (·.accepts 0x1000000001) = some true
      ∧ (selectedRow 0x1000000001).map (·.mask) = some 0x1FFFFFFFFF
      ∧ (selectedRow 0x1000000008).map (·.mask) = some 0x1F00000000 := by decide +kernel

/-- WriteTypeStoresUnlessOwned, WriteLenStoresUnlessOwned: a state of each mode. -/
theorem witness_modes :
    State.reset.mode = .idle ∧ crcState0.mode = .crc ∧ (encState []).mode = .enc ∧ (decHeader 0 0 0).mode = .dec := by
  decide

/-- TypeCodeFactoriesByHost: a type code, four bytes that are none, and texts of 3 and 5 bytes. -/
theorem witness_TypeCodeFactoriesByHost :
    (hTcFromBytes 0x52 0x75 0x53 0x74 State.reset).map (·.1) = some (.ok 0x52755374)
      ∧ (hTcFromBytes 0x52 0x75 0x31 0x74 crcState0).map (·.1) = some (.error .invalidTypeCode)
      ∧ (hTcFromText [0x52, 0x75, 0x53] State.reset).map (·.1) = some (.error .invalidTypeCode)
      ∧ (hTcFromText [0x52, 0x75, 0x53, 0x74, 0x31] State.reset).map (·.1) = some (.ok 0x52755374) := by
  decide +kernel

theorem witness_TcpropReadsTypeCodeProperties :
    ({ decHeader 6 0 0x5275 with typeCode := 0x52755374 } : State).typeCode = 0x52755374
      ∧ (6 ≤ 31 ∧ (tcpropWord 0x52755374).getLsbD 31 = false) := by decide +kernel

theorem witness_ReadsReturnTheirRegisterAndChangeNothing :
    isRead (.rdRsvd1215 15) = true ∧ isRead .rdCmd = true
      ∧ seen (exec .rdType (encState [])) (fun t => (t.response, t.out)) = some (some 0x72755374, (encState []).out) := by
  decide +kernel

/-- ReadableStateDeterminesBehaviour: two states that agree in the elements and differ in the model's own fields. -/
theorem witness_ReadableStateDeterminesBehaviour :
    State.SameElements State.reset { State.reset with response := some 7, inputs := [.rst] }
      ∧ statusWord State.reset = statusWord { State.reset with response := some 7, inputs := [.rst] } :=
  ⟨⟨rfl, rfl, rfl, rfl, rfl, rfl, rfl, rfl, rfl, rfl, rfl, rfl⟩, rfl⟩

/-- CrcInitStartsAccumulation, CrcModeByteAccumulates, CrcEndReturnsToIdle: SEQERR clear, the start of an accumulation, and
a counter about to wrap. -/
theorem witness_crc_statements :
    crcState0.seqErr = false ∧ crcState0.mode = .crc ∧ crcState0.crcState = 0xFFFFFFFF ∧ crcState0.cnt = 0
      ∧ BitVec.extractLsb' 0 8 (0x149 : Word) = 0x49
      ∧ seen (exec (.wrDin 0) { crcState0 with cnt := 0xFFFFFFFF }) (fun t => (t.cnt, t.mode)) = some (0, .crc)
      ∧ State.reset.mode ≠ .crc := by decide +kernel

/-- EncStartEmitsHeader: TYPE no type code; a type code with LEN at both ends; IEND with LEN = 0, which also meets the
L = 0 clause of EncModeByteIsEmittedAndCovered. -/
theorem witness_EncStartEmitsHeader :
    tcAlpha State.reset.typeCode = false
      ∧ (tcAlpha 0x72755374 = true ∧ (0xFFFFFFFF : Word) ≠ 0#32)
      ∧ seen (exec .cmdEncStart { State.reset with typeCode := 0x72755374, len := 0xFFFFFFFF }) (·.out)
        = some [0xFF, 0xFF, 0xFF, 0xFF, 0x72, 0x75, 0x53, 0x74]
      ∧ (tcAlpha 0x49454E44 = true ∧ State.reset.len = 0#32 ∧ State.reset.seqErr = false) := by decide +kernel

/-- EncModeByteIsEmittedAndCovered: a byte that is not the last, and the last, in states of the invariant. -/
theorem witness_EncModeByteIsEmittedAndCovered :
    (encState []).Inv ∧ (encState []).mode = .enc ∧ (encState []).cnt + 1#32 ≠ (encState []).len
      ∧ (encState [0x68, 0x65, 0x6C, 0x6C]).Inv ∧ (encState [0x68, 0x65, 0x6C, 0x6C]).seqErr = false
      ∧ (encState [0x68, 0x65, 0x6C, 0x6C]).cnt + 1#32 = (encState [0x68, 0x65, 0x6C, 0x6C]).len
      ∧ seen (exec (.wrDin 0x6F) (encState [0x68, 0x65, 0x6C, 0x6C])) (fun t => (t.out.drop 12, statusWord t))
        = some ([0x6F, 0xAE, 0x50, 0x8D, 0x6F], 0x00000108) :=
  ⟨witness_inv_enc _ (by decide), by decide, by decide, witness_inv_enc _ (by decide), by decide, by decide,
    by decide +kernel⟩

/-- EncodeEmitsExactlyTheFrame, AbandonedEncodeLeavesFramePrefix (`k` = 0 and `k` = length - 1 of 2 bytes),
EncodeThenParseRoundTrips (first part), TamperedFrameIsRefused (the first payload bit and the last checksum bit). -/
theorem witness_encode_statements :
    tcAlpha 0x49454E44 = true ∧ ([] : List Byte).length < 2 ^ 32 ∧ State.reset.mode = .idle
      ∧ (hEncode 0x49454E44 [] State.reset).map (·.1) = some iendFrame
      ∧ (0 < [0x68#8, 0x65#8].length ∧ 1 < [0x68#8, 0x65#8].length)
      ∧ (8 ≤ 8 ∧ 8 < 12 + [0x68#8].length ∧ 8 ≤ 12 ∧ 12 < 12 + [0x68#8].length ∧ 7 < 8) := by decide +kernel

/-- The whole frame of IEND, parsed on the block, then re-encoded: the hypotheses of EncodeThenParseRoundTrips' second
part, and an input for DecoderComputesParse. -/
theorem witness_EncodeThenParseRoundTrips :
    (hParse iendFrame State.reset).map (·.result) = some (.ok (chunkOf 0x49454E44 [], 12)) ∧ iendFrame.length = 12
      ∧ parse iendFrame = .ok (chunkOf 0x49454E44 []) := by decide +kernel

/-- DecoderComputesParse, error: an input one byte short, and one whose last checksum bit is flipped. -/
theorem witness_DecoderComputesParse :
    parse (iendFrame.take 11) = .error .truncatedInput
      ∧ (hParse (iendFrame.take 11) State.reset).map (·.result) = some (.error .truncatedInput)
      ∧ (hParse (flipBit iendFrame 11 0) State.reset).map (·.result) = some (.error .checksumMismatch) := by
  decide +kernel

/-- HeaderByteEntersLengthOrType: IDX at 0, 3, 4, 6 and 7, and the three outcomes of the 8th byte. -/
theorem witness_HeaderByteEntersLengthOrType :
    ((decHeader 0 0 0).mode = .dec ∧ (decHeader 0 0 0).phase = .hdr ∧ (decHeader 3 0 0).idx < 4#3)
      ∧ (4#3 ≤ (decHeader 4 5 0).idx ∧ (decHeader 6 5 0x7275).idx < 7#3)
      ∧ seen (exec (.wrDin 0x74) (decHeader 7 5 0x727553)) (fun t => (t.typeCode, t.phase, t.idx))
        = some (0x72755374, .pay, 0)
      ∧ seen (exec (.wrDin 0x74) (decHeader 7 0 0x727553)) (·.phase) = some .trl
      ∧ seen (exec (.wrDin 0x31) (decHeader 7 5 0x727553)) statusWord = some 0x00001000 := by decide +kernel

/-- PayloadByteIsCoveredAndCounted: the first byte of 5 and the last, in states of the invariant. -/
theorem witness_PayloadByteIsCoveredAndCounted :
    (decPayload []).Inv ∧ (decPayload []).mode = .dec ∧ (decPayload []).phase = .pay
      ∧ (decPayload []).cnt + 1#32 ≠ (decPayload []).len
      ∧ (decPayload [0x68, 0x65, 0x6C, 0x6C]).len = 5 ∧ (decPayload [0x68, 0x65, 0x6C, 0x6C]).cnt = 4
      ∧ (decPayload [0x68, 0x65, 0x6C, 0x6C]).cnt + 1#32 = (decPayload [0x68, 0x65, 0x6C, 0x6C]).len :=
  ⟨witness_inv_dec_payload _ (by decide), by decide, by decide, by decide, by decide, by decide, by decide⟩

/-- TrailerByteGivesTheVerdict: IDX at 0, 2 and 3, with the last byte that matches and one that does not. -/
theorem witness_TrailerByteGivesTheVerdict :
    ((decTrailer 0 0).mode = .dec ∧ (decTrailer 0 0).phase = .trl ∧ (decTrailer 2 0xAE50).idx ≠ 3#3)
      ∧ (decTrailer 3 0xAE508D).idx = 3#3 ∧ State.reset.seqErr = false
      ∧ (decTrailer 3 0xAE508D).crcState ^^^ 0xFFFFFFFF#32 = (0xAE508D : Word) <<< 8 ||| (0x6F : Word)
      ∧ (decTrailer 3 0xAE508D).crcState ^^^ 0xFFFFFFFF#32 ≠ (0xAE508D : Word) <<< 8 ||| (0xEF : Word) := by
  decide +kernel

/-- DecEndReportsTruncation, AbortReturnsToIdle: a decode in progress, a state of the invariant, and IDLE. -/
theorem witness_dec_end_and_abort :
    (decHeader 7 5 0x727553).Inv ∧ (decHeader 7 5 0x727553).mode = .dec ∧ State.reset.mode = .idle
      ∧ (decHeader 7 5 0x727553).mode ≠ .idle ∧ State.reset.mode ≠ .dec ∧ State.reset.seqErr = false :=
  ⟨witness_inv_dec_header, by decide, by decide, by decide, by decide, by decide⟩

theorem witness_ClearClearsOutcomeFlags :
    statusWord { State.reset with seqErr := true } = 0x00000200
      ∧ seen (exec .cmdClear { encState [] with seqErr := true }) (fun t => (t.seqErr, t.mode)) = some (false, .enc) := by
  decide +kernel

theorem witness_DinInIdleIsDiscarded : State.reset.mode = .idle := by decide

theorem witness_DinUpperBitsAreIgnored :
    BitVec.extractLsb' 0 8 (0xFFFFFF49 : Word) = BitVec.extractLsb' 0 8 (0x49 : Word) := by decide

/-- ViolationsAreExactlyThoseListed, SeqErrIsStickyAndReadByNoRule, FailureAndViolationExcludeEachOther: a violation of
each kind, and a transaction that is none. -/
theorem witness_violations :
    isViolation (.wrDin 0x41) State.reset ∧ isViolation (.wrType 0) (encState []) ∧ isViolation (.wrLen 0) (decHeader 0 0 0)
      ∧ isViolation .cmdCrcEnd State.reset ∧ isViolation .cmdDecEnd crcState0 ∧ isViolation (.wrCnt 0) State.reset
      ∧ ¬ isViolation .cmdAbort State.reset := by
  refine ⟨.inl ⟨⟨_, rfl⟩, rfl⟩, .inr (.inl ⟨⟨_, .inl rfl⟩, .inl rfl⟩), .inr (.inl ⟨⟨_, .inr rfl⟩, .inr rfl⟩),
    .inr (.inr (.inl ⟨rfl, by decide⟩)), .inr (.inr (.inr (.inl ⟨rfl, by decide⟩))), .inr (.inr (.inr (.inr rfl))), ?_⟩
  simp [isViolation, namesNoOperation]

/-- SeqErrIsStickyAndReadByNoRule: SEQERR is cleared by reset and by CLEAR; and `i` is not the read of STATUS. -/
theorem witness_SeqErrIsStickyAndReadByNoRule :
    seen (step { State.reset with seqErr := true, inputs := [.rst] }) (·.seqErr) = some false
      ∧ seen (step { State.reset with seqErr := true, inputs := [.txn 0x1000000007] }) (·.seqErr) = some false
      ∧ Instr.cmdAbort ≠ .rdStatus := by decide +kernel

/-- ErrorCodesHaveExactlyTheirCauses: each code newly raised, by each of its causes. -/
theorem witness_ErrorCodesHaveExactlyTheirCauses :
    seen (exec .cmdEncStart State.reset) (·.err) = some .invalidTypeCode
      ∧ seen (exec (.wrDin 0x31) (decHeader 7 5 0x727553)) (fun t => (t.err, tcAlpha t.typeCode))
        = some (.invalidTypeCode, false)
      ∧ seen (exec (.wrDin 0xEF) (decTrailer 3 0xAE508D)) (·.err) = some .checksumMismatch
      ∧ seen (exec .cmdDecEnd (decPayload [])) (·.err) = some .truncatedInput
      ∧ (State.reset.err = .none ∧ (decTrailer 3 0xAE508D).idx = 3#3) := by decide +kernel

/-- OutcomeStaysUntilStartOrClear, ModeLeavesAndReturnsToIdleAsStated: IDLE with an outcome and SEQERR set. -/
theorem witness_OutcomeStaysUntilStartOrClear :
    isStart (.wrDin 0) = false ∧ Instr.wrDin 0 ≠ .cmdClear
      ∧ seen (exec (.wrDin 0) { State.reset with done := true, seqErr := true }) (fun t => (t.done, t.seqErr))
        = some (true, true) := by decide +kernel

/-- ModeLeavesAndReturnsToIdleAsStated, OperationEndsWithOneOutcome: MODE leaves IDLE, and returns to it from a state of
the invariant by success, by failure and by ABORT. -/
theorem witness_operation_ends :
    seen (exec .cmdCrcInit State.reset) (·.mode) = some .crc ∧ (decTrailer 3 0xAE508D).Inv
      ∧ (decTrailer 3 0xAE508D).mode ≠ .idle
      ∧ seen (exec (.wrDin 0x6F) (decTrailer 3 0xAE508D)) (fun t => (t.mode, t.done, t.err)) = some (.idle, true, .none)
      ∧ seen (exec .cmdDecEnd (decTrailer 3 0xAE508D)) (fun t => (t.mode, t.done, t.err))
        = some (.idle, false, .truncatedInput)
      ∧ seen (exec .cmdAbort (decTrailer 3 0xAE508D)) (fun t => (t.mode, t.done, t.err)) = some (.idle, false, .none) :=
  ⟨by decide +kernel, witness_inv_dec_trailer, by decide, by decide +kernel, by decide +kernel, by decide +kernel⟩

/-- OutIsAppendOnly: ENC_START and a byte in ENC mode change OUT. -/
theorem witness_OutIsAppendOnly :
    seen (exec (.wrDin 0x68) (encState [])) (fun t => decide (t.out ≠ (encState []).out)) = some true
      ∧ seen (exec .cmdEncStart { State.reset with typeCode := 0x49454E44 }) (fun t => decide (t.out ≠ [])) = some true := by
  decide +kernel

theorem witness_StartCommandsAbandonTheOperation :
    isStart .cmdEncStart = true ∧ tcAlpha (encState [0x68]).typeCode = true ∧ isStart .cmdDecStart = true
      ∧ Instr.cmdDecStart ≠ .cmdEncStart
      ∧ seen (exec .cmdDecStart (encState [0x68])) (fun t => (t.mode, t.out)) = some (.dec, (encState [0x68]).out) := by
  decide +kernel

theorem witness_OwnedRegistersKeepTheirValue :
    (encState []).mode = .enc ∧ (decPayload []).mode = .dec ∧ Instr.cmdAbort ≠ .cmdDecStart
      ∧ seen (exec (.wrType 0) (decPayload [])) (·.typeCode) = some 0x72755374 := by decide +kernel

/-- StepKeepsInvariant: a state of the invariant whose step performs a transaction. -/
theorem witness_StepKeepsInvariant :
    ({ encState [0x68] with inputs := [.txn 0x1900000065] } : State).Inv
      ∧ seen (step { encState [0x68] with inputs := [.txn 0x1900000065] }) (·.cnt) = some 2 :=
  ⟨(witness_inv_enc [0x68] (by decide)).withInputs _, by decide +kernel⟩

end Sys2Proof.Machine
end

section
/-! SUPPORT. What one transaction can do, said once as a list of cases; proofs over all transactions split on it. -/

namespace Sys2Proof.Machine

/-! ## Transactions that do the same in every state -/

/-- An access that names no operation is a protocol violation and does nothing else (R265 to R267). -/
theorem effect_of_namesNoOperation {i : Instr} (h : namesNoOperation i = true) (s : State) :
    effect i s = seqerr s := by
  cases i <;> cases h <;> rfl

/-- A read returns some value and changes nothing else (R77). -/
theorem effect_of_isRead {i : Instr} (h : isRead i = true) (s : State) : ∃ v, effect i s = respond v s := by
  cases i <;> cases h <;> exact ⟨_, rfl⟩

/-- Every protocol violation has the effect of `seqerr` (R304). -/
theorem effect_of_isViolation {i : Instr} {s : State} (h : isViolation i s) : effect i s = seqerr s := by
  rcases h with ⟨⟨data, rfl⟩, hm⟩ | ⟨⟨data, rfl | rfl⟩, hm⟩ | ⟨rfl, hm⟩ | ⟨rfl, hm⟩ | hn
  · simp only [effect, dinEffect, hm]
  · rcases hm with hm | hm <;> simp only [effect, writeUnlessOwned, hm]
  · rcases hm with hm | hm <;> simp only [effect, writeUnlessOwned, hm]
  · cases hs : s.mode <;> simp_all [effect]
  · cases hs : s.mode <;> simp_all [effect]
  · exact effect_of_namesNoOperation hn s

/-! ## The cases of a transaction -/

/-- The cases of a transaction `i` in state `s` and the next state `t` of each: a protocol violation, a read, or one of
the operations. -/
inductive EffectCase (i : Instr) (s t : State) : Prop
  | violation (v : isViolation i s) (e : t = seqerr s)
  | read (r : isRead i = true) (v : Word) (e : t = respond v s)
  | crcInit (hi : i = .cmdCrcInit) (e : t = startOperation .crc .hdr s)
  | crcEnd (hi : i = .cmdCrcEnd) (m : s.mode = .crc) (e : t = complete s)
  | encInvalid (hi : i = .cmdEncStart) (a : tcAlpha s.typeCode = false) (e : t = fail .invalidTypeCode s)
  | encEmpty (hi : i = .cmdEncStart) (a : tcAlpha s.typeCode = true) (l : s.len = 0#32)
      (e : t = encFinish (encHeader s))
  | encPayload (hi : i = .cmdEncStart) (a : tcAlpha s.typeCode = true) (l : s.len ≠ 0#32) (e : t = encHeader s)
  | decStart (hi : i = .cmdDecStart)
      (e : t = { startOperation .dec .hdr s with len := 0#32, typeCode := 0#32, crcRx := 0#32 })
  | decEnd (hi : i = .cmdDecEnd) (m : s.mode = .dec) (e : t = fail .truncatedInput s)
  | abort (hi : i = .cmdAbort) (e : t = { s with mode := .idle })
  | clear (hi : i = .cmdClear) (e : t = { s with done := false, err := .none, seqErr := false })
  | writeType (data : Word) (hi : i = .wrType data) (m : s.mode = .idle ∨ s.mode = .crc)
      (e : t = { s with typeCode := data })
  | writeLen (data : Word) (hi : i = .wrLen data) (m : s.mode = .idle ∨ s.mode = .crc) (e : t = { s with len := data })
  | din (data : Word) (hi : i = .wrDin data) (m : s.mode ≠ .idle) (d : DinCase (dinByte data) s t)

theorem effectCase (i : Instr) (s : State) : EffectCase i s (effect i s) := by
  by_cases hv : isViolation i s
  · exact .violation hv (effect_of_isViolation hv)
  by_cases hr : isRead i = true
  · obtain ⟨v, e⟩ := effect_of_isRead hr s
    exact .read hr v e
  unfold isViolation at hv
  cases i
  case cmdCrcInit => exact .crcInit rfl rfl
  case cmdCrcEnd =>
    have hm : s.mode = .crc := by simpa [namesNoOperation] using hv
    exact .crcEnd rfl hm (by simp only [effect, hm])
  case cmdEncStart =>
    rcases encStartEffect_cases s with ⟨ha, e⟩ | ⟨ha, hl, e⟩ | ⟨ha, hl, e⟩
    · exact .encInvalid rfl ha e
    · exact .encEmpty rfl ha hl e
    · exact .encPayload rfl ha hl e
  case cmdDecStart => exact .decStart rfl rfl
  case cmdDecEnd =>
    have hm : s.mode = .dec := by simpa [namesNoOperation] using hv
    exact .decEnd rfl hm (by simp only [effect, hm])
  case cmdAbort => exact .abort rfl rfl
  case cmdClear => exact .clear rfl rfl
  case wrType data =>
    rcases writeUnlessOwned_cases (fun s => { s with typeCode := data }) s with ⟨hm, -⟩ | ⟨hm, e⟩
    · exact absurd (.inr (.inl ⟨⟨data, .inl rfl⟩, hm⟩)) hv
    · exact .writeType data rfl hm e
  case wrLen data =>
    rcases writeUnlessOwned_cases (fun s => { s with len := data }) s with ⟨hm, -⟩ | ⟨hm, e⟩
    · exact absurd (.inr (.inl ⟨⟨data, .inr rfl⟩, hm⟩)) hv
    · exact .writeLen data rfl hm e
  case wrDin data =>
    exact .din data rfl (fun hm => hv (.inl ⟨⟨data, rfl⟩, hm⟩)) (dinCase (dinByte data) s)
  all_goals simp [isRead, namesNoOperation] at hr hv

end Sys2Proof.Machine
end

section
/-! SUPPORT. SEQERR: which transactions change it, and that no effect but the read of STATUS looks at it (R41). -/

namespace Sys2Proof.Machine

/-- A transaction that is no violation and not CLEAR leaves SEQERR as it was. -/
theorem EffectCase.seqErr_eq {i : Instr} {s t : State} (h : EffectCase i s t) (hv : ¬ isViolation i s)
    (hc : i ≠ .cmdClear) : t.seqErr = s.seqErr := by
  cases h with
  | violation v => exact absurd v hv
  | clear hi => exact absurd hi hc
  | din data hi m d => cases d <;> simp_all [crcByte]
  | _ => simp [*, encHeader]

/-- Only CLEAR clears SEQERR (R261). -/
theorem eq_cmdClear_of_effect_clears_seqErr {i : Instr} {s : State} (hs : s.seqErr = true)
    (ht : (effect i s).seqErr = false) : i = .cmdClear := by
  by_contra hc
  by_cases hv : isViolation i s
  · rw [effect_of_isViolation hv] at ht
    cases ht
  · rw [(effectCase i s).seqErr_eq hv hc, hs] at ht
    cases ht

/-! ## SEQERR takes no part -/

theorem decHeaderByte_seqErr (b : Byte) (s : State) (q : Bool) :
    decHeaderByte b { s with seqErr := q } = { decHeaderByte b s with seqErr := q } := by
  simp only [decHeaderByte, headerCheck, cover]
  split_ifs <;> rfl

theorem encByte_seqErr (b : Byte) (s : State) (q : Bool) :
    encByte b { s with seqErr := q } = { encByte b s with seqErr := q } := by
  rcases encByte_cases b s with ⟨h, e⟩ | ⟨h, e⟩ <;> rw [e]
  · exact if_pos h
  · exact if_neg h

theorem decPayloadByte_seqErr (b : Byte) (s : State) (q : Bool) :
    decPayloadByte b { s with seqErr := q } = { decPayloadByte b s with seqErr := q } := by
  rcases decPayloadByte_cases b s with ⟨h, e⟩ | ⟨h, e⟩ <;> rw [e]
  · exact if_pos h
  · exact if_neg h

theorem decTrailerByte_seqErr (b : Byte) (s : State) (q : Bool) :
    decTrailerByte b { s with seqErr := q } = { decTrailerByte b s with seqErr := q } := by
  rcases decTrailerByte_cases b s with ⟨h, e⟩ | ⟨h, hc, e⟩ | ⟨h, hc, e⟩ <;> rw [e]
  · exact if_neg h
  · exact (if_pos h).trans (if_pos hc)
  · exact (if_pos h).trans (if_neg hc)

theorem encStartEffect_seqErr (s : State) (q : Bool) :
    encStartEffect { s with seqErr := q } = { encStartEffect s with seqErr := q } := by
  simp only [encStartEffect]
  split_ifs <;> rfl

theorem dinEffect_seqErr (b : Byte) (s : State) (q : Bool) :
    ∃ r, dinEffect b { s with seqErr := q } = { dinEffect b s with seqErr := r } := by
  unfold dinEffect
  dsimp only
  split
  · exact ⟨true, rfl⟩
  · exact ⟨q, rfl⟩
  · exact ⟨q, encByte_seqErr b s q⟩
  · split
    · exact ⟨q, decHeaderByte_seqErr b s q⟩
    · exact ⟨q, decPayloadByte_seqErr b s q⟩
    · exact ⟨q, decTrailerByte_seqErr b s q⟩

/-- For every transaction but the read of STATUS, SEQERR before it shows at most in SEQERR after it (R41). -/
theorem effect_seqErr {i : Instr} (hi : i ≠ .rdStatus) (s : State) (q : Bool) :
    ∃ r, effect i { s with seqErr := q } = { effect i s with seqErr := r } := by
  cases i
  case rdStatus => exact absurd rfl hi
  case cmdEncStart => exact ⟨q, encStartEffect_seqErr s q⟩
  case wrDin data => exact dinEffect_seqErr (dinByte data) s q
  case cmdCrcEnd | cmdDecEnd =>
    simp only [effect]
    split <;> exact ⟨_, rfl⟩
  case wrType | wrLen =>
    simp only [effect, writeUnlessOwned]
    split <;> exact ⟨_, rfl⟩
  all_goals exact ⟨_, rfl⟩

/-- Settles O47: a violation is `seqerr`, only CLEAR and reset clear SEQERR, and only the read of STATUS shows it. -/
theorem seqErrIsStickyAndReadByNoRule : Obligations.SeqErrIsStickyAndReadByNoRule := by
  refine ⟨fun i s hv => ⟨_, exec_eq_effect i s, by rw [effect_of_isViolation hv]; rfl⟩, fun s t h hs ht => ?_,
    fun i s t u b hi h h' => ?_⟩
  · rcases step_cases h with ⟨-, rfl⟩ | ⟨rest, hq, -⟩ | ⟨w, rest, hq, rfl⟩
    · rw [hs] at ht
      cases ht
    · exact .inl ⟨rest, hq⟩
    · exact .inr ⟨w, rest, hq, eq_cmdClear_of_effect_clears_seqErr (s := takeInput rest s) hs ht⟩
  · obtain ⟨r, e⟩ := effect_seqErr hi s b
    rw [exec_next_iff.1 h', exec_next_iff.1 h, e]

end Sys2Proof.Machine
end

section
/-! SUPPORT. OUT: every transaction appends to it, and only the encoder does (R51). -/

namespace Sys2Proof.Machine

theorem encHeader_out (s : State) : (encHeader s).out = s.out ++ (be32 s.len ++ typeBytes s.typeCode) := rfl

/-- A DIN byte outside ENC mode leaves OUT as it was. -/
theorem DinCase.out_eq {b : Byte} {s t : State} (h : DinCase b s t) (hm : s.mode ≠ .enc) : t.out = s.out := by
  cases h with
  | encLast m | enc m => exact absurd m hm
  | _ => simp [*, crcByte]

/-- Outside ENC_START and the bytes of ENC mode, OUT stays as it was. -/
theorem EffectCase.out_eq {i : Instr} {s t : State} (h : EffectCase i s t)
    (hn : ¬ (i = .cmdEncStart ∨ (s.mode = .enc ∧ ∃ data, i = .wrDin data))) : t.out = s.out := by
  cases h with
  | encInvalid hi | encEmpty hi | encPayload hi => exact absurd (.inl hi) hn
  | din data hi m d => exact d.out_eq fun hm => hn (.inr ⟨hm, data, hi⟩)
  | _ => simp [*]

/-- A DIN byte in ENC mode emits itself, and the checksum after the last one (R194, R195). -/
theorem encByte_out (b : Byte) (s : State) : ∃ emitted, (encByte b s).out = s.out ++ emitted := by
  rcases encByte_cases b s with ⟨-, e⟩ | ⟨-, e⟩ <;> rw [e]
  · exact ⟨_, List.append_assoc ..⟩
  · exact ⟨[b], rfl⟩

/-- ENC_START emits the header, the whole frame of an empty payload, or nothing (R193). -/
theorem encStartEffect_out (s : State) : ∃ emitted, (encStartEffect s).out = s.out ++ emitted := by
  rcases encStartEffect_cases s with ⟨-, e⟩ | ⟨-, -, e⟩ | ⟨-, -, e⟩ <;> rw [e]
  · exact ⟨[], (List.append_nil _).symm⟩
  · exact ⟨_, List.append_assoc ..⟩
  · exact ⟨_, encHeader_out s⟩

/-- No transaction removes or rewrites a byte of OUT. -/
theorem effect_out_append (i : Instr) (s : State) : ∃ emitted, (effect i s).out = s.out ++ emitted := by
  by_cases he : i = .cmdEncStart ∨ (s.mode = .enc ∧ ∃ data, i = .wrDin data)
  · rcases he with rfl | ⟨hm, data, rfl⟩
    · exact encStartEffect_out s
    · simpa only [effect, dinEffect, hm] using encByte_out (dinByte data) s
  · exact ⟨[], by rw [(effectCase i s).out_eq he, List.append_nil]⟩

/-- Settles O53: transactions append to OUT, the encoder alone changes it, and only the reset signal empties it. -/
theorem outIsAppendOnly : Obligations.OutIsAppendOnly := by
  refine ⟨fun i s t h => ?_, fun s t h => ?_⟩
  · obtain rfl := exec_next_iff.1 h
    exact ⟨effect_out_append i s, not_imp_comm.1 (effectCase i s).out_eq⟩
  · rcases step_cases h with ⟨-, rfl⟩ | ⟨rest, hq, rfl⟩ | ⟨w, rest, -, rfl⟩
    · exact .inr ⟨[], (List.append_nil _).symm⟩
    · exact .inl ⟨⟨rest, hq⟩, rfl⟩
    · exact .inr (effect_out_append (decode w) (takeInput rest s))

end Sys2Proof.Machine
end

section
/-! SUPPORT. MODE: how it leaves IDLE and how it returns (R37). -/

namespace Sys2Proof.Machine

/-- MODE leaves IDLE by a start command alone, ENC_START with a type code of four letters only (R164, R193, R220). -/
theorem EffectCase.leaves_idle {i : Instr} {s t : State} (h : EffectCase i s t) (hs : s.mode = .idle)
    (ht : t.mode ≠ .idle) :
    (i = .cmdCrcInit ∧ t.mode = .crc) ∨ (i = .cmdEncStart ∧ tcAlpha s.typeCode = true ∧ t.mode = .enc)
      ∨ (i = .cmdDecStart ∧ t.mode = .dec) := by
  cases h with
  | crcInit hi e => exact .inl ⟨hi, by rw [e]; rfl⟩
  | encPayload hi a l e => exact .inr (.inl ⟨hi, a, by rw [e]; rfl⟩)
  | decStart hi e => exact .inr (.inr ⟨hi, by rw [e]; rfl⟩)
  | din data hi m d => exact absurd hs m
  | _ => simp_all

/-- A DIN byte that ends the operation in progress leaves DONE or an error. -/
theorem DinCase.returns_to_idle {b : Byte} {s t : State} (h : DinCase b s t) (hs : s.mode ≠ .idle)
    (ht : t.mode = .idle) : t.done = true ∨ t.err ≠ .none := by
  cases h with
  | encLast _ _ e | accepted _ _ _ _ e => exact .inl (by rw [e]; rfl)
  | headerInvalid _ _ _ _ e | mismatch _ _ _ _ e => exact .inr (by rw [e]; simp)
  | _ => simp_all [crcByte]

/-- A transaction that brings MODE back to IDLE is ABORT, or leaves DONE or an error. -/
theorem EffectCase.returns_to_idle {i : Instr} {s t : State} (h : EffectCase i s t) (hs : s.mode ≠ .idle)
    (ht : t.mode = .idle) : i = .cmdAbort ∨ t.done = true ∨ t.err ≠ .none := by
  cases h with
  | abort hi => exact .inl hi
  | crcEnd _ _ e | encEmpty _ _ _ e => exact .inr (.inl (by rw [e]; rfl))
  | encInvalid _ _ e | decEnd _ _ e => exact .inr (.inr (by rw [e]; simp))
  | din data hi m d => exact .inr (d.returns_to_idle hs ht)
  | _ => simp_all [encHeader]

/-- A DIN byte in IDLE is discarded as a protocol violation (R268). -/
theorem effect_wrDin_of_idle {s : State} (hs : s.mode = .idle) (data : Word) : effect (.wrDin data) s = seqerr s :=
  effect_of_isViolation (.inl ⟨⟨data, rfl⟩, hs⟩)

/-- Settles O51: MODE leaves IDLE and returns to it as the cases of a transaction say; reset leaves IDLE. -/
theorem modeLeavesAndReturnsToIdleAsStated : Obligations.ModeLeavesAndReturnsToIdleAsStated := by
  refine ⟨rfl, rfl, rfl, rfl, fun i s t h => ?_, fun s rest hq => ⟨applyReset (takeInput rest s), ?_, rfl⟩⟩
  · obtain rfl := exec_next_iff.1 h
    refine ⟨(effectCase i s).leaves_idle, fun _ => (effectCase i s).returns_to_idle, ?_⟩
    rintro hs data rfl
    exact effect_wrDin_of_idle hs data
  · simp only [step, hq]

end Sys2Proof.Machine
end

section
/-! SUPPORT. STATUS: which bit of the word shows which field (R36), and the state after reset (R52). -/

namespace Sys2Proof.Machine

/-! ## The codes of the fields -/

theorem getLsbD_of_toNat_lt {v : Word} {n k : Nat} (h : v.toNat < 2 ^ n) (hk : n ≤ k) : v.getLsbD k = false :=
  Nat.testBit_lt_two_pow (lt_of_lt_of_le h (Nat.pow_le_pow_right (by decide) hk))

theorem Mode.getLsbD_code_of_ge (m : Mode) {k : Nat} (h : 2 ≤ k) : m.code.getLsbD k = false :=
  getLsbD_of_toNat_lt (by cases m <;> decide) h

theorem Phase.getLsbD_code_of_ge (p : Phase) {k : Nat} (h : 2 ≤ k) : p.code.getLsbD k = false :=
  getLsbD_of_toNat_lt (by cases p <;> decide) h

theorem ErrCode.getLsbD_code_of_ge (e : ErrCode) {k : Nat} (h : 2 ≤ k) : e.code.getLsbD k = false :=
  getLsbD_of_toNat_lt (by cases e <;> decide) h

theorem getLsbD_flagWord (f : Bool) (k : Nat) : (flagWord f).getLsbD k = (decide (k = 0) && f) := by
  cases f <;> simp [flagWord, BitVec.getLsbD_one]

/-! ## The STATUS word -/

/-- The layout of STATUS, bit by bit (R36). -/
theorem getLsbD_statusWord (s : State) (k : Nat) :
    (statusWord s).getLsbD k =
      if k < 2 then s.mode.code.getLsbD k else if k < 4 then s.phase.code.getLsbD (k - 2)
      else if k < 8 then s.idx.getLsbD (k - 4) else if k = 8 then s.done else if k = 9 then s.seqErr
      else if k < 12 then false else s.err.code.getLsbD (k - 12) := by
  have hm := s.mode.getLsbD_code_of_ge (k := k)
  have hp := s.phase.getLsbD_code_of_ge (k := k - 2)
  have hi := s.idx.getLsbD_of_ge (k - 4)
  have he := s.err.getLsbD_code_of_ge (k := k - 12)
  simp only [statusWord, BitVec.getLsbD_or, BitVec.getLsbD_shiftLeft, BitVec.getLsbD_setWidth, getLsbD_flagWord]
  grind

theorem statusWord_mode (s : State) : (statusWord s).extractLsb' 0 2 = s.mode.code.setWidth 2 := by
  ext k hk
  rw [BitVec.getElem_extractLsb', getLsbD_statusWord]
  grind

theorem statusWord_phase (s : State) : (statusWord s).extractLsb' 2 2 = s.phase.code.setWidth 2 := by
  ext k hk
  rw [BitVec.getElem_extractLsb', getLsbD_statusWord]
  grind

theorem statusWord_idx (s : State) : (statusWord s).extractLsb' 4 3 = s.idx := by
  ext k hk
  rw [BitVec.getElem_extractLsb', getLsbD_statusWord]
  grind

theorem statusWord_err (s : State) : (statusWord s).extractLsb' 12 4 = s.err.code.setWidth 4 := by
  ext k hk
  rw [BitVec.getElem_extractLsb', getLsbD_statusWord]
  grind

theorem statusWord_bits_10_11 (s : State) : (statusWord s).extractLsb' 10 2 = 0 := by
  ext k hk
  rw [BitVec.getElem_extractLsb', getLsbD_statusWord]
  grind

theorem statusWord_bits_16_31 (s : State) : (statusWord s).extractLsb' 16 16 = 0 := by
  ext k hk
  have he := s.err.getLsbD_code_of_ge (k := 16 + k - 12)
  rw [BitVec.getElem_extractLsb', getLsbD_statusWord]
  grind

theorem statusWord_reset : statusWord State.reset = 0#32 := by decide

/-- Settles O1: every element's reset value stands in `State.reset`, and the computed reads follow from them. -/
theorem resetGivesEveryElementItsValue : Obligations.ResetGivesEveryElementItsValue :=
  ⟨rfl, rfl, rfl, rfl, rfl, rfl, rfl, rfl, rfl, rfl, rfl, rfl, statusWord_reset, by decide, by decide⟩

/-- Settles O19: each field stands at its bits of the STATUS word, and a write to STATUS is a protocol violation. -/
theorem statusFieldsStandWhereTheRuleSays : Obligations.StatusFieldsStandWhereTheRuleSays := by
  refine ⟨fun s => ⟨statusWord s, rfl, ?mode, ?phase, statusWord_idx s, ?bit7, getLsbD_statusWord s 8,
    getLsbD_statusWord s 9, statusWord_bits_10_11 s, ?err, statusWord_bits_16_31 s⟩, fun s data => rfl, ?reset⟩
  case mode => rw [statusWord_mode]; cases s.mode <;> rfl
  case phase => rw [statusWord_phase]; cases s.phase <;> rfl
  case bit7 => exact (getLsbD_statusWord s 7).trans (s.idx.getLsbD_of_ge 3 (by decide))
  case err => rw [statusWord_err]; cases s.err <;> rfl
  case reset => rw [exec_eq_effect, effect, statusWord_reset, respond]

end Sys2Proof.Machine
end

section
/-! SUPPORT. Register reads: what a read answers, and that it changes no element (R77). -/

namespace Sys2Proof.Machine

/-- Answering a read changes none of the twelve elements. -/
theorem sameElements_respond (v : Word) (s : State) : s.SameElements (respond v s) :=
  ⟨rfl, rfl, rfl, rfl, rfl, rfl, rfl, rfl, rfl, rfl, rfl, rfl⟩

/-- The value last returned takes no part in a read. -/
theorem effect_respond_of_isRead {i : Instr} (h : isRead i = true) (v : Word) (s : State) :
    effect i (respond v s) = effect i s := by
  cases i <;> cases h <;> rfl

/-- The same read again changes nothing at all. -/
theorem effect_effect_of_isRead {i : Instr} (h : isRead i = true) (s : State) : effect i (effect i s) = effect i s := by
  obtain ⟨v, hv⟩ := effect_of_isRead h s
  calc effect i (effect i s) = effect i (respond v s) := by rw [hv]
    _ = effect i s := effect_respond_of_isRead h v s

/-- Settles O18: each read's effect is to respond with its value, which changes no element; a read ignores the response
before it, so it is idempotent. -/
theorem readsReturnTheirRegisterAndChangeNothing : Obligations.ReadsReturnTheirRegisterAndChangeNothing := by
  refine fun s slot => ⟨rfl, rfl, rfl, rfl, rfl, rfl, rfl, rfl, rfl, rfl, rfl, rfl, fun i t hi h => ?_⟩
  obtain rfl := exec_next_iff.1 h
  refine ⟨?same, exec_next_iff.2 (effect_effect_of_isRead hi s).symm⟩
  obtain ⟨v, hv⟩ := effect_of_isRead hi s
  exact hv ▸ sameElements_respond v s

end Sys2Proof.Machine
end

section
/-! SUPPORT. The transaction a T word selects: by rw and addr (R104), and for a write to CMD by its data word (R103). -/

namespace Sys2Proof

/-! ## The two halves of the table -/

/-- A write decodes by its slot and data. -/
theorem decode_of_isWrite {w : TWord} (h : w.isWrite = true) : decode w = decodeWrite w.addr w.data :=
  if_pos h

/-- A read decodes by its slot alone (R107). -/
theorem decode_of_not_isWrite {w : TWord} (h : w.isWrite = false) : decode w = decodeRead w.addr :=
  if_neg (by simp [h])

/-! ## Command words (R103) -/

/-- The words that are no command are 0 and those above 7. -/
theorem isCommandWord_eq_false_iff {data : Word} : isCommandWord data = false ↔ data = 0 ∨ 7 < data := by
  simp only [isCommandWord, Bool.and_eq_false_iff, decide_eq_false_iff_not]
  bv_omega

/-- A data word that is no command selects the reserved command. -/
theorem decodeCommand_of_not_isCommandWord {data : Word} (h : isCommandWord data = false) :
    decodeCommand data = .cmdRsvd data := by
  have hd : data.toNat = 0 ∨ 7 < data.toNat := by
    rcases isCommandWord_eq_false_iff.1 h with rfl | h
    · exact .inl rfl
    · exact .inr h
  unfold decodeCommand
  split
  case h_8 => rfl
  all_goals omega

/-- `decodeCommand` compares the data word with the seven commands in turn. -/
theorem decodeCommand_eq_ite (data : Word) :
    decodeCommand data = if data = 1 then .cmdCrcInit else if data = 2 then .cmdCrcEnd
      else if data = 3 then .cmdEncStart else if data = 4 then .cmdDecStart else if data = 5 then .cmdDecEnd
      else if data = 6 then .cmdAbort else if data = 7 then .cmdClear else .cmdRsvd data := by
  split_ifs
  case neg => exact decodeCommand_of_not_isCommandWord (isCommandWord_eq_false_iff.2 (by bv_omega))
  all_goals subst data; rfl

/-- Settles O8: a write to CMD is decoded by `decodeCommand`, which is evaluated at the seven commands and answers the
reserved command for every other word. -/
theorem commandWordSelectsCommand : Obligations.CommandWordSelectsCommand := by
  intro w hw ha
  have hd : decode w = decodeCommand w.data := by rw [decode_of_isWrite hw, ha]; rfl
  rw [hd]
  refine ⟨?_, ?_, ?_, ?_, ?_, ?_, ?_, fun h => ?rsvd⟩
  case rsvd => exact decodeCommand_of_not_isCommandWord (isCommandWord_eq_false_iff.2 h)
  all_goals intro h; rw [h]; rfl

/-! ## Reserved slots (R266) -/

/-- A write to a slot from 12 on belongs to the row _12_15, whatever its data. -/
theorem decodeWrite_of_isSlot1215 {slot : Slot} (h : isSlot1215 slot = true) (data : Word) :
    decodeWrite slot data = .wrRsvd1215 slot data := by
  have hs : 12 ≤ slot.toNat := of_decide_eq_true h
  unfold decodeWrite
  split
  case h_13 => rfl
  all_goals omega

/-- A read of a slot from 12 on belongs to the row _12_15. -/
theorem decodeRead_of_isSlot1215 {slot : Slot} (h : isSlot1215 slot = true) :
    decodeRead slot = .rdRsvd1215 slot := by
  revert slot; decide

/-- Settles O9: the rows of the two halves are evaluated at each slot; CMD's row is the chain of commands, and the slots
from 12 on share one row. -/
theorem slotSelectsTransaction : Obligations.SlotSelectsTransaction := by
  refine fun w => ⟨fun hw => ?write, fun hw => ?read⟩
  case write =>
    rw [decode_of_isWrite hw]
    refine ⟨fun h => ?cmd, ?_, ?_, ?_, ?_, ?_, ?_, ?_, ?_, ?_, ?rsvd1011, fun h => ?rsvd1215⟩
    case cmd => rw [h]; exact decodeCommand_eq_ite w.data
    case rsvd1011 => rintro (h | h) <;> rw [h] <;> rfl
    case rsvd1215 => exact decodeWrite_of_isSlot1215 (decide_eq_true h) w.data
    all_goals intro h; rw [h]; rfl
  case read =>
    rw [decode_of_not_isWrite hw]
    refine ⟨?_, ?_, ?_, ?_, ?_, ?_, ?_, ?_, ?_, ?_, ?rsvd1011, fun h => ?rsvd1215⟩
    case rsvd1011 => rintro (h | h) <;> rw [h] <;> rfl
    case rsvd1215 => exact decodeRead_of_isSlot1215 (decide_eq_true h)
    all_goals intro h; rw [h]; rfl

end Sys2Proof
end

section
/-! SUPPORT. Type codes: the layout of TCPROP (R45, R137), a write of TYPE (R138), the host's factories (R140,
R141). -/

namespace Sys2Proof.Machine

/-! ## The TCPROP word -/

/-- TC_ALPHA looks at the four bytes of TYPE one by one (R131). -/
theorem tcAlpha_eq (t : Word) :
    tcAlpha t = (alpha (t.extractLsb' 24 8) && alpha (t.extractLsb' 16 8)
      && alpha (t.extractLsb' 8 8) && alpha (t.extractLsb' 0 8)) := by
  simp only [tcAlpha, typeBytes, be32, List.all_cons, List.all_nil, Bool.and_true, Bool.and_assoc]

/-- A flag shifted to its place is that bit of the word and no other. -/
theorem getLsbD_flagWord_shiftLeft (f : Bool) {n : Nat} (hn : n < 32) (k : Nat) :
    (flagWord f <<< n).getLsbD k = (decide (k = n) && f) := by
  have hplace : (decide (k < 32) && !decide (k < n) && decide (k - n = 0)) = decide (k = n) := by
    rw [Bool.eq_iff_iff]
    simp only [Bool.and_eq_true, Bool.not_eq_true', decide_eq_true_eq, decide_eq_false_iff_not]
    omega
  rw [BitVec.getLsbD_shiftLeft, getLsbD_flagWord, ← Bool.and_assoc, hplace]

/-- The layout of TCPROP, bit by bit (R45). -/
theorem getLsbD_tcpropWord (t : Word) (k : Nat) :
    (tcpropWord t).getLsbD k =
      if k = 0 then tcAlpha t else if k = 1 then tcCritical t else if k = 2 then tcPublic t
      else if k = 3 then tcReservedOk t else if k = 4 then tcSafeToCopy t else if k = 5 then tcValid t
      else false := by
  simp (disch := decide) only [tcpropWord, BitVec.getLsbD_or, getLsbD_flagWord, getLsbD_flagWord_shiftLeft]
  split_ifs <;> simp [*]

/-- A read of TCPROP answers its word and changes nothing else (R77, R137). -/
theorem exec_rdTcprop (s : State) : exec .rdTcprop s = .next { s with response := some (tcpropWord s.typeCode) } :=
  rfl

/-- Settles O15: a read of TCPROP answers `tcpropWord` of TYPE, whose bits are the properties in their places. -/
theorem tcpropReadsTypeCodeProperties : Obligations.TcpropReadsTypeCodeProperties := by
  intro s
  have hbit := getLsbD_tcpropWord s.typeCode
  have halpha : (tcpropWord s.typeCode).getLsbD 0 = tcAlpha s.typeCode := hbit 0
  refine ⟨tcpropWord s.typeCode, exec_rdTcprop s, halpha.trans (tcAlpha_eq _), hbit 1, hbit 2, hbit 3, hbit 4, ?valid,
    fun k hk => ?rest, fun ht => ?value⟩
  case valid => rw [halpha]; exact hbit 5
  case rest => rw [hbit]; grind
  case value => rw [ht]; decide

/-! ## A write of TYPE -/

/-- While ENC or DEC mode owns TYPE, a write of it is a protocol violation (R138, R304). -/
theorem effect_wrType_of_owned {s : State} (hm : s.mode = .enc ∨ s.mode = .dec) (data : Word) :
    effect (.wrType data) s = seqerr s :=
  effect_of_isViolation (.inr (.inl ⟨⟨data, .inl rfl⟩, hm⟩))

/-- In IDLE and CRC mode a write of TYPE stores its data (R138). -/
theorem effect_wrType_of_not_owned {s : State} (hm : s.mode = .idle ∨ s.mode = .crc) (data : Word) :
    effect (.wrType data) s = { s with typeCode := data } := by
  rcases hm with hm | hm <;> simp only [effect, writeUnlessOwned, hm]

/-- Settles O16: the two clauses of R138, and the word stored in IDLE read back through TCPROP. -/
theorem writeTypeStoresUnlessOwned : Obligations.WriteTypeStoresUnlessOwned := by
  refine ⟨decode_tWrite 2 0x52753174, fun s data => ⟨fun hm => ?owned, fun hm => ?stored, fun hm => ?value⟩⟩
  case owned => rw [exec_eq_effect, effect_wrType_of_owned hm]; rfl
  case stored => rw [exec_eq_effect, effect_wrType_of_not_owned hm]
  case value =>
    have hprop : tcpropWord 0x52753174 = 0x00000012#32 := by decide
    refine ⟨{ s with typeCode := 0x52753174 }, ?_, ?_⟩
    · rw [exec_eq_effect, effect_wrType_of_not_owned (.inl hm)]
    · rw [exec_rdTcprop, hprop]

/-! ## The host's factories -/

/-- Bytes assembled into a word come out again in the same order (R9). -/
theorem be32_fromBE32 (b0 b1 b2 b3 : Byte) : be32 (fromBE32 [b0, b1, b2, b3]) = [b0, b1, b2, b3] := by
  have hv := toNat_fromBE32 b0 b1 b2 b3
  simp only [be32, List.cons.injEq, and_true]
  refine ⟨?_, ?_, ?_, ?_⟩
  all_goals
    apply BitVec.eq_of_toNat_eq
    rw [BitVec.extractLsb'_toNat, hv, Nat.shiftRight_eq_div_pow]
    omega

theorem tcAlpha_fromBE32 (b0 b1 b2 b3 : Byte) :
    tcAlpha (fromBE32 [b0, b1, b2, b3]) = (alpha b0 && alpha b1 && alpha b2 && alpha b3) := by
  simp only [tcAlpha, typeBytes, be32_fromBE32, List.all_cons, List.all_nil, Bool.and_true, Bool.and_assoc]

/-- A read of slot 4 tells the host TCPROP (R137). -/
theorem hostRead_tcprop (s : State) :
    hostRead 4 s = some (tcpropWord s.typeCode, { s with response := some (tcpropWord s.typeCode) }) :=
  hostRead_eq rfl

/-- H_TC_FROM_BYTES in IDLE or CRC mode: the bytes are stored in TYPE, and TCPROP.ALPHA gives the verdict (R140). -/
theorem hTcFromBytes_eq (b0 b1 b2 b3 : Byte) {s : State} (hm : s.mode = .idle ∨ s.mode = .crc) :
    hTcFromBytes b0 b1 b2 b3 s = some
      (if tcAlpha (fromBE32 [b0, b1, b2, b3]) then .ok (fromBE32 [b0, b1, b2, b3]) else .error .invalidTypeCode,
        { s with typeCode := fromBE32 [b0, b1, b2, b3],
                 response := some (tcpropWord (fromBE32 [b0, b1, b2, b3])) }) := by
  have hdecode : ∀ t, decode (encode (.wrType t)) = .wrType t := decode_tWrite 2
  have hwrite := effect_wrType_of_not_owned (s := { s with response := none }) hm
  simp only [hTcFromBytes, hostSend_eq, hdecode, hwrite, Option.bind_some, hostRead_tcprop, Option.map_some,
    getLsbD_tcpropWord, if_true]

/-- Settles O17: from bytes, by what H_TC_FROM_BYTES does in IDLE and CRC mode; STATUS shows neither TYPE nor the
response. From text, by the length of the text. -/
theorem typeCodeFactoriesByHost : Obligations.TypeCodeFactoriesByHost := by
  refine ⟨fun b0 b1 b2 b3 s hm => ?bytes, fun text s hl => ?short, fun b0 b1 b2 b3 more s => rfl⟩
  case bytes =>
    rw [← tcAlpha_fromBE32]
    exact ⟨_, hTcFromBytes_eq b0 b1 b2 b3 hm, rfl, rfl⟩
  case short =>
    unfold hTcFromText
    split
    · simp only [List.length_cons] at hl; omega
    · rfl

end Sys2Proof.Machine
end

section
/-! SUPPORT. CRC mode: CRC_INIT (R164), a DIN byte (R165), CRC_END (R166), and what a run of the three leaves. -/

namespace Sys2Proof.Machine

/-! ## CRC_INIT -/

theorem exec_rdStatus (s : State) : exec .rdStatus s = .next { s with response := some (statusWord s) } := rfl

theorem exec_rdCrcOut (s : State) : exec .rdCrcOut s = .next { s with response := some (crcOutWord s) } := rfl

/-- With SEQERR clear, STATUS shows MODE alone after CRC_INIT. -/
theorem statusWord_startOperation_crc {s : State} (h : s.seqErr = false) :
    statusWord (startOperation .crc .hdr s) = 0x00000001#32 := by
  simp only [statusWord, startOperation, h]
  decide

/-- Before the first byte CRC_OUT shows the checksum of the empty sequence, 0. -/
theorem crcOutOf_crcInitial : crcOutOf crcInitial = 0x00000000#32 := by decide

/-- Settles O22: CRC_INIT is `startOperation` in CRC mode, and the two reads answer the words of that state. -/
theorem crcInitStartsAccumulation : Obligations.CrcInitStartsAccumulation := by
  refine ⟨decode_tWrite 0 1, fun s => ⟨startOperation .crc .hdr s, exec_eq_effect .cmdCrcInit s, rfl, fun h => ?status,
    ?crcOut⟩⟩
  case status => rw [exec_rdStatus, statusWord_startOperation_crc h]
  case crcOut => rw [exec_rdCrcOut, crcOutWord, startOperation_crcState, crcOutOf_crcInitial]

/-! ## A DIN byte -/

theorem dinEffect_of_crc {s : State} (hm : s.mode = .crc) (b : Byte) : dinEffect b s = crcByte b s := by
  simp only [dinEffect, hm]

/-- A byte in CRC mode enters the checksum and is counted, and does nothing else (R165). -/
theorem crcByte_eq (b : Byte) (s : State) :
    crcByte b s = { s with crcState := crc8 s.crcState b, cnt := s.cnt + 1#32 } := rfl

/-- Settles O23: the byte of a DIN write in CRC mode goes to `crcByte`; the example and the wrap are values of it. -/
theorem crcModeByteAccumulates : Obligations.CrcModeByteAccumulates := by
  intro s data hm
  have hbyte : exec (.wrDin data) s
      = .next { s with crcState := crc8 s.crcState (data.extractLsb' 0 8), cnt := s.cnt + 1#32 } := by
    rw [exec_eq_effect, effect, dinEffect_of_crc hm, crcByte_eq, dinByte]
  refine ⟨hbyte, fun hc hn hd => ?value, fun hn => ?wrap⟩
  case value =>
    have hcrc : crc8 s.crcState (data.extractLsb' 0 8) = 0x22FDE946 := by rw [hc, hd]; decide
    have hout : crcOutOf 0x22FDE946 = 0xDD0216B9 := by decide
    have hcnt : s.cnt + 1#32 = 1 := by rw [hn]; decide
    exact ⟨_, hbyte, hcrc, (congrArg crcOutOf hcrc).trans hout, hcnt⟩
  case wrap =>
    have hcnt : s.cnt + 1#32 = 0 := by rw [hn]; decide
    exact ⟨_, hbyte, hcnt, hm⟩

/-- Bytes issued in CRC mode are folded into CRC_STATE and counted modulo 2^32; nothing else but the response changes. -/
theorem hostSendAll_dinWord_of_crc (bytes : List Byte) {s : State} (hm : s.mode = .crc) :
    ∃ r, hostSendAll (bytes.map dinWord) s
      = some { s with crcState := crcFold s.crcState bytes, cnt := s.cnt + BitVec.ofNat 32 bytes.length,
                      response := r } := by
  induction bytes generalizing s with
  | nil => exact ⟨s.response, by simp [hostSendAll]⟩
  | cons b bytes ih =>
    obtain ⟨r, hr⟩ := ih (s := crcByte b { s with response := none }) hm
    have hcnt : s.cnt + 1#32 + BitVec.ofNat 32 bytes.length = s.cnt + BitVec.ofNat 32 (bytes.length + 1) := by
      rw [BitVec.add_assoc, BitVec.ofNat_add, BitVec.add_comm 1#32]
    refine ⟨r, ?_⟩
    rw [List.map_cons, hostSendAll_cons, effect_dinWord, dinEffect_of_crc (s := { s with response := none }) hm, hr,
      crcByte_eq, crcFold_cons, List.length_cons, ← hcnt]

/-! ## CRC_END -/

theorem effect_cmdCrcEnd_of_crc {s : State} (hm : s.mode = .crc) : effect .cmdCrcEnd s = complete s := by
  simp only [effect, hm]

/-- Outside CRC mode CRC_END is a protocol violation (R166, R304). -/
theorem effect_cmdCrcEnd_of_not_crc {s : State} (hm : s.mode ≠ .crc) : effect .cmdCrcEnd s = seqerr s :=
  effect_of_isViolation (.inr (.inr (.inl ⟨rfl, hm⟩)))

/-- A whole accumulation: after CRC_INIT, any bytes and CRC_END, CRC_STATE and CNT are those of the bytes. -/
theorem hostSendAll_accumulation (bytes : List Byte) (s : State) :
    hostSendAll (encode .cmdCrcInit :: bytes.map dinWord ++ [encode .cmdCrcEnd]) s
      = some (complete { startOperation .crc .hdr s with
          crcState := crcFold crcInitial bytes, cnt := BitVec.ofNat 32 bytes.length, response := none }) := by
  have hinit : decode (encode .cmdCrcInit) = .cmdCrcInit := decode_tWrite 0 1
  have hend : decode (encode .cmdCrcEnd) = .cmdCrcEnd := decode_tWrite 0 2
  obtain ⟨r, hbytes⟩ := hostSendAll_dinWord_of_crc bytes (s := startOperation .crc .hdr { s with response := none }) rfl
  rw [List.cons_append, hostSendAll_cons, hinit, effect, hostSendAll_append, hbytes, Option.bind_some, hostSendAll_cons,
    hend, effect_cmdCrcEnd_of_crc rfl, startOperation_cnt, BitVec.zero_add]
  rfl

/-- With SEQERR clear, STATUS shows DONE alone after an accumulation. -/
theorem statusWord_complete_accumulation {s : State} (h : s.seqErr = false) (c n : Word) (r : Option Word) :
    statusWord (complete { startOperation .crc .hdr s with crcState := c, cnt := n, response := r }) = 0x00000100#32 := by
  simp only [statusWord, complete, startOperation, h]
  decide

/-- After an accumulation CRC_OUT shows the checksum of its bytes. -/
theorem crcOutWord_complete_accumulation (bytes : List Byte) (s : State) (n : Word) (r : Option Word) :
    crcOutWord (complete { startOperation .crc .hdr s with
      crcState := crcFold crcInitial bytes, cnt := n, response := r }) = checksum bytes := rfl

/-- Settles O24: CRC_END in CRC mode is `complete` and elsewhere `seqerr`; the example is the accumulation of "IEND". -/
theorem crcEndReturnsToIdle : Obligations.CrcEndReturnsToIdle := by
  refine ⟨decode_tWrite 0 2, fun s => ⟨fun hm => ?crc, fun hm => ?other, fun hs => ?iend⟩⟩
  case crc => rw [exec_eq_effect, effect_cmdCrcEnd_of_crc hm]; rfl
  case other => rw [exec_eq_effect, effect_cmdCrcEnd_of_not_crc hm]; rfl
  case iend =>
    have hsum : checksum [0x49, 0x45, 0x4E, 0x44] = 0xAE426082 := by decide +kernel
    exact ⟨_, hostSendAll_accumulation _ s, statusWord_complete_accumulation hs _ _ _,
      (crcOutWord_complete_accumulation _ s _ _).trans hsum⟩

end Sys2Proof.Machine
end

section
/-! SUPPORT. The frame encoder: a write of LEN (R191), ENC_START (R193), a DIN byte in ENC mode (R194) and the end of the
encode (R195). -/

namespace Sys2Proof.Machine

/-! ## A write of LEN -/

/-- While ENC or DEC mode owns LEN, a write of it is a protocol violation (R191, R304). -/
theorem effect_wrLen_of_owned {s : State} (hm : s.mode = .enc ∨ s.mode = .dec) (data : Word) :
    effect (.wrLen data) s = seqerr s :=
  effect_of_isViolation (.inr (.inl ⟨⟨data, .inr rfl⟩, hm⟩))

/-- In IDLE and CRC mode a write of LEN stores its data (R191). -/
theorem effect_wrLen_of_not_owned {s : State} (hm : s.mode = .idle ∨ s.mode = .crc) (data : Word) :
    effect (.wrLen data) s = { s with len := data } := by
  rcases hm with hm | hm <;> simp only [effect, writeUnlessOwned, hm]

/-- A read of LEN answers it and changes nothing else (R77, R192). -/
theorem exec_rdLen (s : State) : exec .rdLen s = .next { s with response := some s.len } := rfl

/-- Settles O27: the two clauses of R191, and the length stored in IDLE read back. -/
theorem writeLenStoresUnlessOwned : Obligations.WriteLenStoresUnlessOwned := by
  refine ⟨decode_tWrite 3 5, fun s data => ⟨fun hm => ?owned, fun hm => ?stored, fun hm => ?value⟩⟩
  case owned => rw [exec_eq_effect, effect_wrLen_of_owned hm]; rfl
  case stored => rw [exec_eq_effect, effect_wrLen_of_not_owned hm]
  case value =>
    refine ⟨{ s with len := 5 }, ?_, exec_rdLen _⟩
    rw [exec_eq_effect, effect_wrLen_of_not_owned (.inl hm)]

/-! ## ENC_START -/

/-- ENC_START refuses a TYPE that is no type code (R193). -/
theorem effect_cmdEncStart_of_not_tcAlpha {s : State} (ha : tcAlpha s.typeCode = false) :
    effect .cmdEncStart s = fail .invalidTypeCode s :=
  if_neg (by simp [ha])

/-- ENC_START with a payload to come stops after the header (R193). -/
theorem effect_cmdEncStart_of_len_ne_zero {s : State} (ha : tcAlpha s.typeCode = true) (hl : s.len ≠ 0#32) :
    effect .cmdEncStart s = encHeader s :=
  (if_pos ha).trans (if_neg hl)

/-- ENC_START with no payload finishes the frame (R193). -/
theorem effect_cmdEncStart_of_len_eq_zero {s : State} (ha : tcAlpha s.typeCode = true) (hl : s.len = 0#32) :
    effect .cmdEncStart s = encFinish (encHeader s) :=
  (if_pos ha).trans (if_pos hl)

@[simp] theorem encHeader_mode (s : State) : (encHeader s).mode = .enc := rfl
@[simp] theorem encHeader_len (s : State) : (encHeader s).len = s.len := rfl
@[simp] theorem encHeader_cnt (s : State) : (encHeader s).cnt = 0#32 := rfl
@[simp] theorem encHeader_crcState (s : State) :
    (encHeader s).crcState = crcFold crcInitial (typeBytes s.typeCode) := rfl

/-- After ENC_FINISH without an error or a violation STATUS shows DONE and the phase TRL (R195). -/
theorem statusWord_encFinish {s : State} (herr : s.err = .none) (hseq : s.seqErr = false) :
    statusWord (encFinish s) = 0x00000108#32 := by
  simp only [statusWord, encFinish_err, encFinish_seqErr, encFinish_done, encFinish_idx, encFinish_phase, encFinish_mode,
    herr, hseq]
  decide

/-- The frame of IEND: no payload, so its checksum covers the type bytes alone (R193). -/
theorem iend_frame_bytes :
    be32 0#32 ++ typeBytes 0x49454E44 ++ be32 (crcOutOf (crcFold crcInitial (typeBytes 0x49454E44)))
      = [0x00, 0x00, 0x00, 0x00, 0x49, 0x45, 0x4E, 0x44, 0xAE, 0x42, 0x60, 0x82] := by
  decide +kernel

/-- Settles O28: ENC_START is `fail`, `encHeader`, or `encFinish` after it, by TYPE and LEN; IEND is a case of the
last. -/
theorem encStartEmitsHeader : Obligations.EncStartEmitsHeader := by
  refine ⟨decode_tWrite 0 3, fun s => ⟨fun ha => ?invalid, fun ha hl => ?payload, fun ha hl => ?empty,
    fun ht hl hs => ?iend⟩⟩
  case invalid => rw [exec_eq_effect, effect_cmdEncStart_of_not_tcAlpha ha]; rfl
  case payload => rw [exec_eq_effect, effect_cmdEncStart_of_len_ne_zero ha hl]; rfl
  case empty =>
    have hlen : be32 0#32 = be32 s.len := by rw [hl]
    rw [exec_eq_effect, effect_cmdEncStart_of_len_eq_zero ha hl, hlen]
    rfl
  case iend =>
    have ha : tcAlpha s.typeCode = true := by rw [ht]; decide
    refine ⟨encFinish (encHeader s), ?_, ?out, statusWord_encFinish rfl hs⟩
    · rw [exec_eq_effect, effect_cmdEncStart_of_len_eq_zero ha hl]
    case out =>
      rw [encFinish_out, encHeader_out, crcOutWord, encHeader_crcState, hl, ht, List.append_assoc, iend_frame_bytes]

/-! ## A DIN byte in ENC mode -/

theorem dinEffect_of_enc {s : State} (hm : s.mode = .enc) (b : Byte) : dinEffect b s = encByte b s := by
  simp only [dinEffect, hm]

/-- A byte in ENC mode before the last one is emitted, covered and counted (R194). -/
theorem dinEffect_of_enc_not_last {s : State} (hm : s.mode = .enc) (hn : s.cnt + 1#32 ≠ s.len) (b : Byte) :
    dinEffect b s = countByte (cover [b] (emit [b] s)) :=
  (dinEffect_of_enc hm b).trans (if_neg hn)

/-- The last byte in ENC mode is followed by ENC_FINISH (R194, R195). -/
theorem dinEffect_of_enc_last {s : State} (hm : s.mode = .enc) (hn : s.cnt + 1#32 = s.len) (b : Byte) :
    dinEffect b s = encFinish (countByte (cover [b] (emit [b] s))) :=
  (dinEffect_of_enc hm b).trans (if_pos hn)

/-- Issuing a byte in ENC mode before the last one (R194). -/
theorem hostSendAll_dinWord_of_enc_not_last (b : Byte) (ws : List TWord) {s : State} (hm : s.mode = .enc)
    (hn : s.cnt + 1#32 ≠ s.len) :
    hostSendAll (dinWord b :: ws) s
      = hostSendAll ws (countByte (cover [b] (emit [b] { s with response := none }))) := by
  rw [hostSendAll_cons, effect_dinWord, dinEffect_of_enc_not_last (s := { s with response := none }) hm hn]

/-- In ENC mode the payload is not complete (R194). -/
theorem State.Inv.cnt_lt_len_of_enc {s : State} (hi : s.Inv) (hm : s.mode = .enc) : s.cnt < s.len := by
  obtain ⟨-, -, hlt, -⟩ := hi.enc hm
  exact hlt

/-! ## The start of H_ENCODE -/

/-- The three transactions that start an encode, in IDLE or CRC mode: TYPE and LEN are stored and ENC_START finds them
(R196). -/
theorem hostSendAll_encodeStart (t n : Word) (ws : List TWord) {s : State} (hm : s.mode = .idle ∨ s.mode = .crc) :
    hostSendAll (encode (.wrType t) :: encode (.wrLen n) :: encode .cmdEncStart :: ws) s
      = hostSendAll ws (effect .cmdEncStart { s with typeCode := t, len := n, response := none }) := by
  have htype : decode (encode (.wrType t)) = .wrType t := decode_tWrite 2 t
  have hlen : decode (encode (.wrLen n)) = .wrLen n := decode_tWrite 3 n
  have hstart : decode (encode .cmdEncStart) = .cmdEncStart := decode_tWrite 0 3
  rw [hostSendAll_cons, htype, effect_wrType_of_not_owned (s := { s with response := none }) hm,
    hostSendAll_cons, hlen, effect_wrLen_of_not_owned (s := { s with typeCode := t, response := none }) hm,
    hostSendAll_cons, hstart]

/-- For a type code and a payload to come, those transactions emit the header (R193, R196). -/
theorem hostSendAll_encodeHeader {t n : Word} (ha : tcAlpha t = true) (hn : n ≠ 0#32) (ws : List TWord) {s : State}
    (hm : s.mode = .idle ∨ s.mode = .crc) :
    hostSendAll (encode (.wrType t) :: encode (.wrLen n) :: encode .cmdEncStart :: ws) s
      = hostSendAll ws (encHeader { s with typeCode := t, len := n, response := none }) := by
  rw [hostSendAll_encodeStart t n ws hm,
    effect_cmdEncStart_of_len_ne_zero (s := { s with typeCode := t, len := n, response := none }) ha hn]

/-- The bytes of the example of R194: the header of "ruSt" with LEN = 5, and 0x68. -/
theorem ruSt_header_bytes_0x68 :
    be32 5#32 ++ typeBytes 0x72755374 ++ [0x68] = [0x00, 0x00, 0x00, 0x05, 0x72, 0x75, 0x53, 0x74, 0x68] := by
  decide

/-- CRC_STATE in the example of R194, after the type bytes of "ruSt" and 0x68. -/
theorem crc8_ruSt_0x68 : crc8 (crcFold crcInitial (typeBytes 0x72755374)) 0x68 = 0x80EE2E92 := by decide +kernel

/-- The transactions of the example of R194 in IDLE: the header, and one byte that is not the last. -/
theorem hostSendAll_ruSt_0x68 {s : State} (hm : s.mode = .idle) :
    hostSendAll [encode (.wrType 0x72755374), encode (.wrLen 5), encode .cmdEncStart, dinWord 0x68] s
      = some (countByte (cover [0x68] (emit [0x68]
          { encHeader { s with typeCode := 0x72755374, len := 5#32, response := none } with response := none }))) := by
  have ha : tcAlpha 0x72755374 = true := by decide
  have hn : 0#32 + 1#32 ≠ 5#32 := by decide
  rw [hostSendAll_encodeHeader ha (by decide) _ (.inl hm),
    hostSendAll_dinWord_of_enc_not_last _ _ (encHeader_mode _) (by rw [encHeader_cnt, encHeader_len]; exact hn)]
  rfl

/-- Settles O29: a byte in ENC mode is emitted, covered and counted, and ENC_FINISH follows the last one, as it follows
ENC_START with LEN = 0; the example is the start of an encode and one byte. -/
theorem encModeByteIsEmittedAndCovered : Obligations.EncModeByteIsEmittedAndCovered := by
  refine ⟨fun s data hm => ⟨fun hn => ?byte, fun hn => ?last, fun hi => hi.cnt_lt_len_of_enc hm, fun hi hs hn => ?done⟩,
    fun s ha hl hs => ?empty, fun s hm => ?value⟩
  case byte => rw [exec_eq_effect, effect, dinEffect_of_enc_not_last hm hn]; rfl
  case last => rw [exec_eq_effect, effect, dinEffect_of_enc_last hm hn]; rfl
  case done =>
    obtain ⟨-, herr⟩ := hi.busy (by simp [hm])
    refine ⟨encFinish (countByte (cover [dinByte data] (emit [dinByte data] s))), ?_, hn,
      statusWord_encFinish herr hs, rfl⟩
    rw [exec_eq_effect, effect, dinEffect_of_enc_last hm hn]
  case empty =>
    refine ⟨encFinish (encHeader s), ?_, hl.symm, statusWord_encFinish rfl hs, rfl, rfl, rfl, rfl⟩
    rw [exec_eq_effect, effect_cmdEncStart_of_len_eq_zero ha hl]
  case value =>
    refine ⟨_, hostSendAll_ruSt_0x68 hm, ?out, ?cnt, ?crc⟩
    case out =>
      rw [countByte_out, cover_out, emit_out, encHeader_out, List.append_assoc, ruSt_header_bytes_0x68]
    case cnt => rw [countByte_cnt, cover_cnt, emit_cnt, encHeader_cnt]; rfl
    case crc =>
      rw [countByte_crcState, cover_crcState, emit_crcState, encHeader_crcState, crcFold_cons, crcFold_nil,
        crc8_ruSt_0x68]

end Sys2Proof.Machine
end

section
/-! SUPPORT. The frame decoder: DEC_START (R220), a DIN byte in each phase of DEC mode (R221 to R224), DEC_END (R225), and
what a run of bytes leaves. -/

namespace Sys2Proof.Machine

/-! ## DEC_START -/

/-- With SEQERR clear, STATUS shows MODE alone after DEC_START. -/
theorem statusWord_cmdDecStart {s : State} (h : s.seqErr = false) :
    statusWord (effect .cmdDecStart s) = 0x00000003#32 := by
  simp only [statusWord, effect, startOperation, h]
  decide

/-- Settles O32: DEC_START starts an operation in DEC mode and clears the decoder's registers; the read of STATUS answers
the word of that state. -/
theorem decStartClearsTheDecoder : Obligations.DecStartClearsTheDecoder := by
  refine ⟨decode_tWrite 0 4, fun s => ⟨effect .cmdDecStart s, exec_eq_effect .cmdDecStart s, rfl, fun h => ?_⟩⟩
  rw [exec_rdStatus, statusWord_cmdDecStart h]

/-! ## A DIN byte in DEC mode, phase by phase -/

/-- A length byte enters LEN and is not covered (R221). -/
theorem dinEffect_length_byte {b : Byte} {s : State} (hm : s.mode = .dec) (hp : s.phase = .hdr) (h : s.idx < 4#3) :
    dinEffect b s = { s with len := shiftInByte s.len b, idx := s.idx + 1#3 } := by
  have h7 : s.idx ≠ 7#3 := by bv_omega
  simp only [dinEffect, hm, hp, decHeaderByte, if_pos h, if_neg h7]

/-- A type byte before the 8th header byte enters TYPE and is covered (R221). -/
theorem dinEffect_type_byte {b : Byte} {s : State} (hm : s.mode = .dec) (hp : s.phase = .hdr) (h4 : 4#3 ≤ s.idx)
    (h7 : s.idx < 7#3) :
    dinEffect b s = { cover [b] s with typeCode := shiftInByte s.typeCode b, idx := s.idx + 1#3 } := by
  simp only [dinEffect, hm, hp, decHeaderByte, if_neg (BitVec.not_lt.2 h4), if_neg (BitVec.ne_of_lt h7), cover]

/-- The 8th header byte enters TYPE, is covered, and is followed by HEADER_CHECK (R221, R222). -/
theorem dinEffect_header_last {b : Byte} {s : State} (hm : s.mode = .dec) (hp : s.phase = .hdr) (h : s.idx = 7#3) :
    dinEffect b s = headerCheck { cover [b] s with typeCode := shiftInByte s.typeCode b } := by
  have h4 : ¬ s.idx < 4#3 := by bv_omega
  simp only [dinEffect, hm, hp, decHeaderByte, if_neg h4, if_pos h, cover]

/-- HEADER_CHECK refuses a TYPE that is no type code (R222). -/
theorem headerCheck_of_not_tcAlpha {s : State} (ha : tcAlpha s.typeCode = false) :
    headerCheck s = fail .invalidTypeCode { s with idx := 0#3 } :=
  if_neg (by simp [ha])

/-- HEADER_CHECK goes to the trailer when there is no payload (R222). -/
theorem headerCheck_of_len_eq_zero {s : State} (ha : tcAlpha s.typeCode = true) (hl : s.len = 0#32) :
    headerCheck s = { s with idx := 0#3, phase := .trl } :=
  (if_pos ha).trans (if_pos hl)

/-- HEADER_CHECK goes to the payload when there is one (R222). -/
theorem headerCheck_of_len_ne_zero {s : State} (ha : tcAlpha s.typeCode = true) (hl : s.len ≠ 0#32) :
    headerCheck s = { s with idx := 0#3, phase := .pay } :=
  (if_pos ha).trans (if_neg hl)

/-- HEADER_CHECK keeps TYPE on every outcome (R222). -/
@[simp] theorem headerCheck_typeCode (s : State) : (headerCheck s).typeCode = s.typeCode := by
  rcases headerCheck_cases s with ⟨-, e⟩ | ⟨-, -, e⟩ | ⟨-, -, e⟩
  · rw [e, fail_typeCode]
  · rw [e]
  · rw [e]

/-- A payload byte before the last one is covered and counted (R223). -/
theorem dinEffect_payload_byte {b : Byte} {s : State} (hm : s.mode = .dec) (hp : s.phase = .pay)
    (hn : s.cnt + 1#32 ≠ s.len) :
    dinEffect b s = countByte (cover [b] s) := by
  simp only [dinEffect, hm, hp]
  exact if_neg hn

/-- The last payload byte also starts the trailer (R223). -/
theorem dinEffect_payload_last {b : Byte} {s : State} (hm : s.mode = .dec) (hp : s.phase = .pay)
    (hn : s.cnt + 1#32 = s.len) :
    dinEffect b s = { countByte (cover [b] s) with phase := .trl } := by
  simp only [dinEffect, hm, hp]
  exact if_pos hn

/-- In phase PAY of DEC mode the payload is not complete (R222, R223). -/
theorem State.Inv.cnt_lt_len_of_dec_pay {s : State} (hi : s.Inv) (hm : s.mode = .dec) (hp : s.phase = .pay) :
    s.cnt < s.len := by
  obtain ⟨-, hlt, -⟩ := hi.decPay hm hp
  exact hlt

/-- A trailer byte before the fourth enters CRC_RX (R224). -/
theorem dinEffect_trailer_byte {b : Byte} {s : State} (hm : s.mode = .dec) (hp : s.phase = .trl) (h : s.idx ≠ 3#3) :
    dinEffect b s = { s with crcRx := shiftInByte s.crcRx b, idx := s.idx + 1#3 } := by
  simp only [dinEffect, hm, hp, decTrailerByte, if_neg h]

/-- The fourth trailer byte accepts the frame when CRC_RX then equals CRC_OUT (R224). -/
theorem dinEffect_trailer_accepted {b : Byte} {s : State} (hm : s.mode = .dec) (hp : s.phase = .trl) (h : s.idx = 3#3)
    (hc : crcOutWord s = shiftInByte s.crcRx b) :
    dinEffect b s = complete { s with crcRx := shiftInByte s.crcRx b, idx := 0#3 } := by
  simp only [dinEffect, hm, hp, decTrailerByte, if_pos h]
  exact if_pos hc

/-- The fourth trailer byte fails with CHECKSUM_MISMATCH when CRC_RX then differs from CRC_OUT (R224). -/
theorem dinEffect_trailer_mismatch {b : Byte} {s : State} (hm : s.mode = .dec) (hp : s.phase = .trl) (h : s.idx = 3#3)
    (hc : crcOutWord s ≠ shiftInByte s.crcRx b) :
    dinEffect b s = fail .checksumMismatch { s with crcRx := shiftInByte s.crcRx b, idx := 0#3 } := by
  simp only [dinEffect, hm, hp, decTrailerByte, if_pos h]
  exact if_neg hc

/-! ## A run of DIN bytes -/

/-- The state after DIN bytes, first byte first. -/
def dinRun (bytes : List Byte) (s : State) : State := bytes.foldl (fun t b => dinEffect b t) s

@[simp] theorem dinRun_nil (s : State) : dinRun [] s = s := rfl

theorem dinRun_cons (b : Byte) (bytes : List Byte) (s : State) : dinRun (b :: bytes) s = dinRun bytes (dinEffect b s) :=
  rfl

theorem dinRun_append (a b : List Byte) (s : State) : dinRun (a ++ b) s = dinRun b (dinRun a s) := List.foldl_append

theorem dinRun_concat (bytes : List Byte) (b : Byte) (s : State) :
    dinRun (bytes ++ [b]) s = dinEffect b (dinRun bytes s) := dinRun_append bytes [b] s

/-- A DIN byte returns nothing on the register port. -/
theorem dinEffect_response (b : Byte) (s : State) : (dinEffect b s).response = s.response := by
  cases dinCase b s with
  | crc m e => rw [e, crcByte_eq]
  | _ => simp only [*, fail_response, seqerr_response, complete_response, encFinish_response, countByte_response,
      cover_response, emit_response]

/-- Issuing DIN bytes runs them, once the response of an earlier read is gone. -/
theorem hostSendAll_dinWord (bytes : List Byte) (ws : List TWord) {s : State} (hr : s.response = none) :
    hostSendAll (bytes.map dinWord ++ ws) s = hostSendAll ws (dinRun bytes s) := by
  induction bytes generalizing s with
  | nil => rfl
  | cons b bytes ih =>
    have hs : { s with response := none } = s := by rw [← hr]
    rw [List.map_cons, List.cons_append, hostSendAll_cons, effect_dinWord, hs, ih ((dinEffect_response b s).trans hr),
      dinRun_cons]

/-- A decode's transactions: DEC_START, DIN bytes, and what follows. -/
theorem hostSendAll_decode (bytes : List Byte) (ws : List TWord) (s : State) :
    hostSendAll (encode .cmdDecStart :: bytes.map dinWord ++ ws) s
      = hostSendAll ws (dinRun bytes (effect .cmdDecStart { s with response := none })) := by
  have hstart : decode (encode .cmdDecStart) = .cmdDecStart := decode_tWrite 0 4
  rw [List.cons_append, hostSendAll_cons, hstart, hostSendAll_dinWord bytes ws rfl]

/-- Issuing DEC_START and DIN bytes, and nothing after them. -/
theorem hostSendAll_decode_bytes (bytes : List Byte) (s : State) :
    hostSendAll (encode .cmdDecStart :: bytes.map dinWord) s
      = some (dinRun bytes (effect .cmdDecStart { s with response := none })) := by
  rw [← List.append_nil (_ :: _), hostSendAll_decode]
  rfl

/-- Bytes covered one after the other (R163). -/
theorem cover_append (a b : List Byte) (s : State) : cover (a ++ b) s = cover b (cover a s) := by
  rw [cover, cover, cover, crcFold_append]

/-- IDX counts bytes without wrapping as long as they fit its three bits. -/
theorem toNat_idx_add {i : BitVec 3} {n : Nat} (h : i.toNat + n < 8) : (i + BitVec.ofNat 3 n).toNat = i.toNat + n := by
  simp only [BitVec.toNat_add, BitVec.toNat_ofNat]
  omega

/-- One more byte counted by a register of any width. -/
theorem add_ofNat_succ {w : Nat} (i : BitVec w) (n : Nat) :
    i + BitVec.ofNat w n + BitVec.ofNat w 1 = i + BitVec.ofNat w (n + 1) := by
  rw [BitVec.add_assoc, BitVec.ofNat_add]

/-- Four bytes shifted into a cleared register are its big-endian word (R9, R221, R224). -/
theorem foldl_shiftInByte (b0 b1 b2 b3 : Byte) :
    [b0, b1, b2, b3].foldl shiftInByte 0#32 = fromBE32 [b0, b1, b2, b3] := by
  have h0 : (shiftInByte 0#32 b0).toNat = b0.toNat := by rw [toNat_shiftInByte _ _ (by decide)]; simp
  have h1 := toNat_shiftInByte (shiftInByte 0#32 b0) b1 (by omega)
  have h2 := toNat_shiftInByte (shiftInByte (shiftInByte 0#32 b0) b1) b2 (by omega)
  have h3 := toNat_shiftInByte (shiftInByte (shiftInByte (shiftInByte 0#32 b0) b1) b2) b3 (by omega)
  apply BitVec.eq_of_toNat_eq
  rw [toNat_fromBE32, List.foldl_cons, List.foldl_cons, List.foldl_cons, List.foldl_cons, List.foldl_nil, h3, h2, h1, h0]

/-- Length bytes are shifted into LEN and counted by IDX (R221). -/
theorem dinRun_length_bytes (bytes : List Byte) {s : State} (hm : s.mode = .dec) (hp : s.phase = .hdr)
    (hn : s.idx.toNat + bytes.length ≤ 4) :
    dinRun bytes s
      = { s with len := bytes.foldl shiftInByte s.len, idx := s.idx + BitVec.ofNat 3 bytes.length } := by
  induction bytes using List.reverseRecOn with
  | nil => simp
  | append_singleton bytes b ih =>
    rw [List.length_append, List.length_singleton] at hn ⊢
    have hidx : s.idx + BitVec.ofNat 3 bytes.length < 4#3 := by
      rw [BitVec.lt_def, toNat_idx_add (by omega)]
      exact hn
    rw [dinRun_concat, ih (by omega), List.foldl_concat, ← add_ofNat_succ]
    exact dinEffect_length_byte hm hp hidx

/-- Type bytes before the 8th header byte are shifted into TYPE, covered, and counted by IDX (R221). -/
theorem dinRun_type_bytes (bytes : List Byte) {s : State} (hm : s.mode = .dec) (hp : s.phase = .hdr)
    (h4 : 4 ≤ s.idx.toNat) (hn : s.idx.toNat + bytes.length ≤ 7) :
    dinRun bytes s
      = { cover bytes s with typeCode := bytes.foldl shiftInByte s.typeCode,
                             idx := s.idx + BitVec.ofNat 3 bytes.length } := by
  induction bytes using List.reverseRecOn with
  | nil => simp [cover]
  | append_singleton bytes b ih =>
    rw [List.length_append, List.length_singleton] at hn ⊢
    have hidx := toNat_idx_add (i := s.idx) (n := bytes.length) (by omega)
    have hlo : 4#3 ≤ s.idx + BitVec.ofNat 3 bytes.length := by
      rw [BitVec.le_def, hidx]
      exact Nat.le_add_right_of_le h4
    have hhi : s.idx + BitVec.ofNat 3 bytes.length < 7#3 := by
      rw [BitVec.lt_def, hidx]
      exact hn
    rw [dinRun_concat, ih (by omega), List.foldl_concat, ← add_ofNat_succ, cover_append]
    exact dinEffect_type_byte hm hp hlo hhi

/-- Payload bytes before the last one are covered and counted (R223). -/
theorem dinRun_payload_bytes (bytes : List Byte) {s : State} (hm : s.mode = .dec) (hp : s.phase = .pay)
    (hn : s.cnt.toNat + bytes.length < s.len.toNat) :
    dinRun bytes s = { cover bytes s with cnt := s.cnt + BitVec.ofNat 32 bytes.length } := by
  induction bytes using List.reverseRecOn with
  | nil => simp [cover]
  | append_singleton bytes b ih =>
    rw [List.length_append, List.length_singleton] at hn ⊢
    have hlen := s.len.isLt
    have hne : s.cnt + BitVec.ofNat 32 bytes.length + 1#32 ≠ s.len := by
      rw [add_ofNat_succ, ne_eq, BitVec.toNat_eq, BitVec.toNat_add, BitVec.toNat_ofNat]
      omega
    rw [dinRun_concat, ih (by omega), ← add_ofNat_succ, cover_append]
    exact dinEffect_payload_byte hm hp hne

/-- Trailer bytes before the fourth are shifted into CRC_RX and counted by IDX (R224). -/
theorem dinRun_trailer_bytes (bytes : List Byte) {s : State} (hm : s.mode = .dec) (hp : s.phase = .trl)
    (hn : s.idx.toNat + bytes.length ≤ 3) :
    dinRun bytes s
      = { s with crcRx := bytes.foldl shiftInByte s.crcRx, idx := s.idx + BitVec.ofNat 3 bytes.length } := by
  induction bytes using List.reverseRecOn with
  | nil => simp
  | append_singleton bytes b ih =>
    rw [List.length_append, List.length_singleton] at hn ⊢
    have hne : s.idx + BitVec.ofNat 3 bytes.length ≠ 3#3 := by
      rw [ne_eq, BitVec.toNat_eq, toNat_idx_add (by omega)]
      exact Nat.ne_of_lt hn
    rw [dinRun_concat, ih (by omega), List.foldl_concat, ← add_ofNat_succ]
    exact dinEffect_trailer_byte hm hp hne

/-! ## The header of a decode -/

/-- After DEC_START and four bytes LEN is those bytes, big-endian (R221). -/
theorem dinRun_decode_length (l0 l1 l2 l3 : Byte) (s : State) :
    dinRun [l0, l1, l2, l3] (effect .cmdDecStart s)
      = { effect .cmdDecStart s with len := fromBE32 [l0, l1, l2, l3], idx := 4#3 } := by
  have h := dinRun_length_bytes [l0, l1, l2, l3] (s := effect .cmdDecStart s) rfl rfl (Nat.le_refl 4)
  rw [h, ← foldl_shiftInByte]
  rfl

/-- After DEC_START and eight bytes TYPE is the last four, covered, and HEADER_CHECK follows (R221, R222). -/
theorem dinRun_decode_header (l0 l1 l2 l3 t0 t1 t2 t3 : Byte) (s : State) :
    dinRun [l0, l1, l2, l3, t0, t1, t2, t3] (effect .cmdDecStart s)
      = headerCheck { cover [t0, t1, t2, t3] (effect .cmdDecStart s) with
          len := fromBE32 [l0, l1, l2, l3], typeCode := fromBE32 [t0, t1, t2, t3], idx := 7#3 } := by
  have hsplit : [l0, l1, l2, l3, t0, t1, t2, t3] = [l0, l1, l2, l3] ++ ([t0, t1, t2] ++ [t3]) := rfl
  rw [hsplit, dinRun_append, dinRun_decode_length, dinRun_concat, dinRun_type_bytes _ rfl rfl (by simp) (by simp),
    dinEffect_header_last rfl rfl rfl, ← foldl_shiftInByte t0]
  rfl

/-- After DEC_START and the header of a frame with a payload, the payload follows (R222). -/
theorem dinRun_decode_header_payload {l0 l1 l2 l3 t0 t1 t2 t3 : Byte} (s : State)
    (ha : tcAlpha (fromBE32 [t0, t1, t2, t3]) = true) (hl : fromBE32 [l0, l1, l2, l3] ≠ 0#32) :
    dinRun [l0, l1, l2, l3, t0, t1, t2, t3] (effect .cmdDecStart s)
      = { cover [t0, t1, t2, t3] (effect .cmdDecStart s) with
          len := fromBE32 [l0, l1, l2, l3], typeCode := fromBE32 [t0, t1, t2, t3], idx := 0#3, phase := .pay } :=
  (dinRun_decode_header l0 l1 l2 l3 t0 t1 t2 t3 s).trans (headerCheck_of_len_ne_zero ha hl)

/-- Settles O33: the cases of a header byte, and the runs of four and of eight bytes after DEC_START. -/
theorem headerByteEntersLengthOrType : Obligations.HeaderByteEntersLengthOrType := by
  have hlength (l0 l1 l2 l3 : Byte) (s : State) :
      ∃ u, hostSendAll (encode .cmdDecStart :: [l0, l1, l2, l3].map dinWord) s = some u
        ∧ u.len = fromBE32 [l0, l1, l2, l3] ∧ u.idx = 4 := by
    rw [hostSendAll_decode_bytes, dinRun_decode_length]
    exact ⟨_, rfl, rfl, rfl⟩
  refine ⟨fun s data hm hp => ⟨fun h => ?length, fun h4 h7 => ?type, fun h => ⟨fun ha => ?invalid, fun ha hl => ?empty,
    fun ha hl => ?payload⟩⟩,
    fun s => ?five, fun l0 l1 l2 l3 t0 t1 t2 t3 s => ⟨hlength l0 l1 l2 l3 s, ?header⟩⟩
  case length => rw [exec_eq_effect, effect, dinEffect_length_byte hm hp h]; rfl
  case type => rw [exec_eq_effect, effect, dinEffect_type_byte hm hp h4 h7]; rfl
  case invalid =>
    rw [exec_eq_effect, effect, dinEffect_header_last hm hp h]
    exact congrArg Host.Outcome.next (headerCheck_of_not_tcAlpha ha)
  case empty =>
    rw [exec_eq_effect, effect, dinEffect_header_last hm hp h]
    exact congrArg Host.Outcome.next (headerCheck_of_len_eq_zero ha hl)
  case payload =>
    rw [exec_eq_effect, effect, dinEffect_header_last hm hp h]
    exact congrArg Host.Outcome.next (headerCheck_of_len_ne_zero ha hl)
  case five =>
    have hfive : fromBE32 [0x00, 0x00, 0x00, 0x05] = 0x00000005 := by decide
    obtain ⟨u, hu, hlen, hidx⟩ := hlength 0x00 0x00 0x00 0x05 s
    exact ⟨u, hu, hlen.trans hfive, hidx⟩
  case header =>
    rw [hostSendAll_decode_bytes, dinRun_decode_header]
    exact ⟨_, rfl, headerCheck_typeCode _⟩

/-! ## The payload and the trailer -/

/-- Settles O35: the two cases of a payload byte; the example is the last payload byte with LEN = 5. -/
theorem payloadByteIsCoveredAndCounted : Obligations.PayloadByteIsCoveredAndCounted := by
  refine fun s data hm hp => ⟨fun hn => ?byte, fun hn => ?last, fun hi => hi.cnt_lt_len_of_dec_pay hm hp,
    fun hl hc => ?value⟩
  case byte => rw [exec_eq_effect, effect, dinEffect_payload_byte hm hp hn]; rfl
  case last => rw [exec_eq_effect, effect, dinEffect_payload_last hm hp hn]; rfl
  case value =>
    have hcnt : s.cnt + 1#32 = 5 := by rw [hc]; decide
    refine ⟨{ countByte (cover [dinByte data] s) with phase := .trl }, ?_, rfl, hcnt⟩
    rw [exec_eq_effect, effect, dinEffect_payload_last hm hp (hcnt.trans hl.symm)]

/-- A whole payload is covered and counted and leaves the decoder in the trailer (R223). -/
theorem dinRun_payload (bytes : List Byte) (b : Byte) {s : State} (hm : s.mode = .dec) (hp : s.phase = .pay)
    (hn : s.cnt.toNat + (bytes.length + 1) = s.len.toNat) :
    dinRun (bytes ++ [b]) s = { cover (bytes ++ [b]) s with cnt := s.len, phase := .trl } := by
  have hcnt : s.cnt + BitVec.ofNat 32 bytes.length + 1#32 = s.len := by
    have hlen := s.len.isLt
    rw [add_ofNat_succ, BitVec.toNat_eq, BitVec.toNat_add, BitVec.toNat_ofNat]
    omega
  rw [dinRun_concat, dinRun_payload_bytes _ hm hp (by omega), cover_append, ← hcnt]
  exact dinEffect_payload_last hm hp hcnt

/-- A whole trailer that is the checksum is accepted (R224). -/
theorem dinRun_trailer_accepted (c0 c1 c2 c3 : Byte) {s : State} (hm : s.mode = .dec) (hp : s.phase = .trl)
    (hi : s.idx = 0#3) (hr : s.crcRx = 0#32) (hc : crcOutWord s = fromBE32 [c0, c1, c2, c3]) :
    dinRun [c0, c1, c2, c3] s = complete { s with crcRx := fromBE32 [c0, c1, c2, c3], idx := 0#3 } := by
  have hsplit : [c0, c1, c2, c3] = [c0, c1, c2] ++ [c3] := rfl
  have hidx : s.idx + 3#3 = 3#3 := by rw [hi]; decide
  rw [← foldl_shiftInByte, ← hr, hsplit, List.foldl_concat] at hc ⊢
  rw [dinRun_concat, dinRun_trailer_bytes _ hm hp (by simp [hi])]
  exact dinEffect_trailer_accepted hm hp hidx hc

/-- With SEQERR clear, STATUS shows DONE and the phase TRL after an accepted frame (R224). -/
theorem statusWord_complete_trailer {s : State} (hp : s.phase = .trl) (hi : s.idx = 0#3) (herr : s.err = .none)
    (hseq : s.seqErr = false) : statusWord (complete s) = 0x00000108#32 := by
  simp only [statusWord, complete, hp, hi, herr, hseq]
  decide

section
variable {l0 l1 l2 l3 t0 t1 t2 t3 c0 c1 c2 c3 : Byte} {p : List Byte} {b : Byte}

/-- After DEC_START, a header and its payload, the decoder is in the trailer and CRC_STATE covers the type bytes and the
payload (R221 to R223). -/
theorem dinRun_decode_payload (s : State)
    (ha : tcAlpha (fromBE32 [t0, t1, t2, t3]) = true) (hl : p.length + 1 = (fromBE32 [l0, l1, l2, l3]).toNat) :
    dinRun ([l0, l1, l2, l3, t0, t1, t2, t3] ++ (p ++ [b])) (effect .cmdDecStart s)
      = { cover ([t0, t1, t2, t3] ++ (p ++ [b])) (effect .cmdDecStart s) with
          len := fromBE32 [l0, l1, l2, l3], typeCode := fromBE32 [t0, t1, t2, t3], cnt := fromBE32 [l0, l1, l2, l3],
          phase := .trl } := by
  have hne : fromBE32 [l0, l1, l2, l3] ≠ 0#32 := by
    intro h
    rw [h] at hl
    exact absurd hl (Nat.succ_ne_zero _)
  rw [dinRun_append, dinRun_decode_header_payload s ha hne, cover_append]
  exact dinRun_payload p b rfl rfl ((Nat.zero_add _).trans hl)

/-- DEC_START and a frame with a payload: the decode is accepted (R221 to R224). -/
theorem dinRun_decode_frame (s : State)
    (ha : tcAlpha (fromBE32 [t0, t1, t2, t3]) = true) (hl : p.length + 1 = (fromBE32 [l0, l1, l2, l3]).toNat)
    (hc : checksum ([t0, t1, t2, t3] ++ (p ++ [b])) = fromBE32 [c0, c1, c2, c3]) :
    dinRun ([l0, l1, l2, l3, t0, t1, t2, t3] ++ (p ++ [b]) ++ [c0, c1, c2, c3]) (effect .cmdDecStart s)
      = complete { cover ([t0, t1, t2, t3] ++ (p ++ [b])) (effect .cmdDecStart s) with
          len := fromBE32 [l0, l1, l2, l3], typeCode := fromBE32 [t0, t1, t2, t3], cnt := fromBE32 [l0, l1, l2, l3],
          phase := .trl, crcRx := fromBE32 [c0, c1, c2, c3] } := by
  rw [dinRun_append, dinRun_decode_payload s ha hl]
  exact dinRun_trailer_accepted c0 c1 c2 c3 rfl rfl rfl rfl hc

/-- After an accepted frame CRC_RX and CRC_OUT are its trailer, and STATUS reads 0x00000108 unless SEQERR was set (R224). -/
theorem dinRun_decode_frame_reads {s : State}
    (ha : tcAlpha (fromBE32 [t0, t1, t2, t3]) = true) (hl : p.length + 1 = (fromBE32 [l0, l1, l2, l3]).toNat)
    (hc : checksum ([t0, t1, t2, t3] ++ (p ++ [b])) = fromBE32 [c0, c1, c2, c3]) (hs : s.seqErr = false) :
    ∃ u, dinRun ([l0, l1, l2, l3, t0, t1, t2, t3] ++ (p ++ [b]) ++ [c0, c1, c2, c3]) (effect .cmdDecStart s) = u
      ∧ u.crcRx = fromBE32 [c0, c1, c2, c3] ∧ crcOutWord u = fromBE32 [c0, c1, c2, c3] ∧ statusWord u = 0x00000108#32 :=
  ⟨_, dinRun_decode_frame s ha hl hc, rfl, hc, statusWord_complete_trailer rfl rfl rfl hs⟩

end

/-- The checksum of the example of R224. -/
theorem checksum_ruSt_hello :
    checksum ([0x72, 0x75, 0x53, 0x74] ++ ([0x68, 0x65, 0x6C, 0x6C] ++ [0x6F])) = 0xAE508D6F := by
  decide +kernel

/-- Settles O36: the cases of a trailer byte; the example is its header and payload, then a trailer that is accepted. -/
theorem trailerByteGivesTheVerdict : Obligations.TrailerByteGivesTheVerdict := by
  refine ⟨fun s data hm hp => ⟨fun h => ?byte, fun h hc => ?accepted, fun h hc => ?mismatch⟩, fun s hs => ?value⟩
  case byte => rw [exec_eq_effect, effect, dinEffect_trailer_byte hm hp h]; rfl
  case accepted => exact (exec_eq_effect _ s).trans (congrArg _ (dinEffect_trailer_accepted hm hp h hc))
  case mismatch => exact (exec_eq_effect _ s).trans (congrArg _ (dinEffect_trailer_mismatch hm hp h hc))
  case value =>
    have ha : tcAlpha (fromBE32 [0x72, 0x75, 0x53, 0x74]) = true := by decide
    have hl : [0x68, 0x65, 0x6C, 0x6C].length + 1 = (fromBE32 [0x00, 0x00, 0x00, 0x05]).toNat := by decide
    have hc : fromBE32 [0xAE, 0x50, 0x8D, 0x6F] = 0xAE508D6F := by decide
    obtain ⟨u, hu, hrx, hout, hstatus⟩ :=
      dinRun_decode_frame_reads (s := { s with response := none }) ha hl (checksum_ruSt_hello.trans hc.symm) hs
    exact ⟨u, (hostSendAll_decode_bytes _ s).trans (congrArg some hu), hrx.trans hc, hout.trans hc, hstatus⟩

/-! ## DEC_END -/

theorem effect_cmdDecEnd_of_dec {s : State} (hm : s.mode = .dec) : effect .cmdDecEnd s = fail .truncatedInput s := by
  simp only [effect, hm]

/-- Outside DEC mode DEC_END is a protocol violation (R225, R304). -/
theorem effect_cmdDecEnd_of_not_dec {s : State} (hm : s.mode ≠ .dec) : effect .cmdDecEnd s = seqerr s :=
  effect_of_isViolation (.inr (.inr (.inr (.inl ⟨rfl, hm⟩))))

/-- After DEC_START and any five bytes one type byte has been taken (R221). -/
theorem dinRun_decode_five (b0 b1 b2 b3 b4 : Byte) (s : State) :
    dinRun [b0, b1, b2, b3, b4] (effect .cmdDecStart s)
      = { cover [b4] (effect .cmdDecStart s) with
          len := fromBE32 [b0, b1, b2, b3], typeCode := shiftInByte 0#32 b4, idx := 5#3 } := by
  have hsplit : [b0, b1, b2, b3, b4] = [b0, b1, b2, b3] ++ [b4] := rfl
  rw [hsplit, dinRun_concat, dinRun_decode_length]
  exact dinEffect_type_byte rfl rfl (BitVec.le_refl _) (by decide : 4#3 < 7#3)

/-- With SEQERR clear, STATUS shows the error, IDX and no operation after a decode cut off in its header (R225). -/
theorem statusWord_fail_truncatedInput {s : State} (hp : s.phase = .hdr) (hi : s.idx = 5#3) (hseq : s.seqErr = false) :
    statusWord (fail .truncatedInput s) = 0x00003050#32 := by
  simp only [statusWord, fail, hp, hi, hseq]
  decide

/-- Settles O37: DEC_END is `fail` in DEC mode and `seqerr` elsewhere; the example ends a decode after five bytes. -/
theorem decEndReportsTruncation : Obligations.DecEndReportsTruncation := by
  refine ⟨decode_tWrite 0 5, fun s => ⟨fun hm => ?dec, fun hm => ?other, fun hs b0 b1 b2 b3 b4 => ?value⟩⟩
  case dec => rw [exec_eq_effect, effect_cmdDecEnd_of_dec hm]; rfl
  case other => rw [exec_eq_effect, effect_cmdDecEnd_of_not_dec hm]; rfl
  case value =>
    have hend : decode (encode .cmdDecEnd) = .cmdDecEnd := decode_tWrite 0 5
    rw [hostSendAll_decode, dinRun_decode_five, hostSendAll_cons, hend, effect_cmdDecEnd_of_dec rfl]
    exact ⟨_, rfl, statusWord_fail_truncatedInput rfl rfl hs⟩

end Sys2Proof.Machine
end

section
/-! SUPPORT. Control and register access: ABORT (R260), CLEAR (R261), a DIN byte in IDLE (R268), and the accesses that name
no operation (R264 to R267). -/

namespace Sys2Proof.Machine

/-! ## ABORT -/

/-- After DEC_START and any three bytes LEN is those bytes, and IDX counts them (R221). -/
theorem dinRun_decode_three (b0 b1 b2 : Byte) (s : State) :
    dinRun [b0, b1, b2] (effect .cmdDecStart s)
      = { effect .cmdDecStart s with len := [b0, b1, b2].foldl shiftInByte 0#32, idx := 3#3 } :=
  dinRun_length_bytes [b0, b1, b2] (s := effect .cmdDecStart s) rfl rfl (by decide : 0 + 3 ≤ 4)

/-- STATUS shows IDX alone after ABORT in a header, when no outcome and no violation is recorded (R260). -/
theorem statusWord_cmdAbort {s : State} (hp : s.phase = .hdr) (hi : s.idx = 3#3) (hd : s.done = false)
    (he : s.err = .none) (hseq : s.seqErr = false) : statusWord (effect .cmdAbort s) = 0x00000030#32 := by
  simp only [statusWord, effect, hp, hi, hd, he, hseq]
  decide

/-- Settles O41: ABORT sets MODE alone, so an operation it abandons leaves the DONE and ERR that the invariant gives a
busy state; the example abandons a decode after three bytes. -/
theorem abortReturnsToIdle : Obligations.AbortReturnsToIdle := by
  refine ⟨decode_tWrite 0 6, fun s => ⟨exec_eq_effect .cmdAbort s, fun hm => ?idle, fun hi hm => ?busy,
    fun hs b0 b1 b2 => ?value⟩⟩
  case idle => rw [exec_eq_effect, effect, ← hm]
  case busy =>
    obtain ⟨hd, he⟩ := hi.busy hm
    exact ⟨_, exec_eq_effect .cmdAbort s, hd, he⟩
  case value =>
    have habort : decode (encode .cmdAbort) = .cmdAbort := decode_tWrite 0 6
    rw [hostSendAll_decode, dinRun_decode_three, hostSendAll_cons, habort]
    exact ⟨_, rfl, statusWord_cmdAbort rfl rfl rfl rfl hs⟩

/-! ## CLEAR -/

/-- CLEAR keeps the position of the operation in STATUS, bits 7:0, and clears the rest (R261). -/
theorem statusWord_cmdClear (s : State) : statusWord (effect .cmdClear s) = statusWord s &&& 0x000000FF#32 := by
  apply BitVec.eq_of_getLsbD_eq
  intro k hk
  have hmask : (0x000000FF#32).getLsbD k = decide (k < 8) := by revert k; decide
  have hnone : (ErrCode.none.code).getLsbD (k - 12) = false := BitVec.getLsbD_zero
  rw [BitVec.getLsbD_and, hmask, getLsbD_statusWord, getLsbD_statusWord, effect]
  by_cases h8 : k < 8
  · simp [h8]
  · have h2 : ¬k < 2 := by omega
    have h4 : ¬k < 4 := by omega
    simp [h2, h4, h8, hnone]

/-- Settles O42: CLEAR clears the three flags alone and no other transaction clears SEQERR; a STATUS with only SEQERR set
has nothing among the bits CLEAR keeps. -/
theorem clearClearsOutcomeFlags : Obligations.ClearClearsOutcomeFlags := by
  refine ⟨decode_tWrite 0 7, fun s => ⟨exec_eq_effect .cmdClear s, fun i t h hs ht => ?only, fun h => ?value⟩⟩
  case only =>
    obtain rfl := exec_next_iff.1 h
    exact eq_cmdClear_of_effect_clears_seqErr hs ht
  case value =>
    refine ⟨_, exec_eq_effect .cmdClear s, ?_⟩
    rw [statusWord_cmdClear, h]
    decide

/-! ## A DIN byte in IDLE -/

/-- STATUS shows SEQERR alone after a protocol violation in the reset state. -/
theorem statusWord_seqerr_reset : statusWord (seqerr State.reset) = 0x00000200#32 := by decide

/-- Settles O43: a DIN byte in IDLE is `seqerr`, which leaves every register; the reset state is in IDLE. -/
theorem dinInIdleIsDiscarded : Obligations.DinInIdleIsDiscarded := by
  have hidle (s : State) (data : Word) (hm : s.mode = .idle) : exec (.wrDin data) s = .next (seqerr s) := by
    rw [exec_eq_effect, effect_wrDin_of_idle hm]
  exact ⟨hidle, seqerr State.reset, hidle State.reset 0x41 rfl, statusWord_seqerr_reset, seqerr_crcState State.reset⟩

/-! ## Accesses that name no operation -/

/-- Settles O44: the writes are protocol violations in every state, the reads respond with 0, and the examples' words
decode by their slot and data. -/
theorem accessesThatNameNoOperation : Obligations.AccessesThatNameNoOperation := by
  intro s slot data
  have hwrite {i : Instr} (h : namesNoOperation i = true) : exec i s = .next (seqerr s) := by
    rw [exec_eq_effect, effect_of_namesNoOperation h]
  exact ⟨hwrite rfl, hwrite rfl, hwrite rfl, hwrite rfl, hwrite rfl, hwrite rfl, hwrite rfl, hwrite rfl, hwrite rfl,
    exec_eq_effect .rdCmd s, exec_eq_effect .rdDin s, exec_eq_effect (.rdRsvd1011 slot) s,
    exec_eq_effect (.rdRsvd1215 slot) s, decode_tWrite 0 0, decode_tWrite 0 0x101, statusWord_seqerr_reset,
    decode_tRead 12, decode_tWrite 12 1⟩

end Sys2Proof.Machine
end

section
/-! SUPPORT. Errors and outcomes: the protocol violations (R304), the causes of each error code (R301 to R303), and what an
outcome survives (R310). -/

namespace Sys2Proof.Machine

/-! ## Protocol violations -/

/-- Settles O46: a violation is `seqerr`; CLEAR leaves SEQERR clear, and any other transaction that is no violation keeps
it. -/
theorem violationsAreExactlyThoseListed : Obligations.ViolationsAreExactlyThoseListed := by
  refine fun i s => ⟨fun hv => ?violation, fun t h hv ht => ?other⟩
  case violation =>
    rw [exec_eq_effect, effect_of_isViolation hv]
    rfl
  case other =>
    obtain rfl := exec_next_iff.1 h
    by_cases hc : i = .cmdClear
    · subst hc
      cases ht
    · rwa [(effectCase i s).seqErr_eq hv hc] at ht

/-! ## The causes of the error codes -/

/-- The four ways a transaction `i` in state `s` fails, with the next state `t` of each (R193, R222, R224, R225). -/
inductive FailureCase (i : Instr) (s t : State) : Prop
  | encStart (hi : i = .cmdEncStart) (a : tcAlpha s.typeCode = false) (e : t = fail .invalidTypeCode s)
  | header (data : Word) (hi : i = .wrDin data) (m : s.mode = .dec) (p : s.phase = .hdr) (h7 : s.idx = 7#3)
      (a : tcAlpha (shiftInByte s.typeCode (dinByte data)) = false)
      (e : t = fail .invalidTypeCode
        { cover [dinByte data] s with typeCode := shiftInByte s.typeCode (dinByte data), idx := 0#3 })
  | trailer (data : Word) (hi : i = .wrDin data) (m : s.mode = .dec) (p : s.phase = .trl) (h3 : s.idx = 3#3)
      (c : crcOutWord s ≠ shiftInByte s.crcRx (dinByte data))
      (e : t = fail .checksumMismatch { s with crcRx := shiftInByte s.crcRx (dinByte data), idx := 0#3 })
  | decEnd (hi : i = .cmdDecEnd) (m : s.mode = .dec) (e : t = fail .truncatedInput s)

/-- A DIN byte that changes ERR is the 8th byte of a bad header or the 4th of a bad trailer. -/
theorem DinCase.failureCase {data : Word} {s t : State} (h : DinCase (dinByte data) s t) (hne : t.err ≠ s.err) :
    FailureCase (.wrDin data) s t := by
  cases h with
  | headerInvalid m p h7 a e => exact .header data rfl m p h7 a e
  | mismatch m p h3 c e => exact .trailer data rfl m p h3 c e
  | _ => simp_all [crcByte]

/-- A transaction that leaves an error code other than the one before it fails in one of the four ways. -/
theorem EffectCase.failureCase {i : Instr} {s t : State} (h : EffectCase i s t) (hn : t.err ≠ .none)
    (hne : t.err ≠ s.err) : FailureCase i s t := by
  cases h with
  | encInvalid hi a e => exact .encStart hi a e
  | decEnd hi m e => exact .decEnd hi m e
  | din data hi m d => exact hi ▸ d.failureCase hne
  | _ => simp_all [encHeader]

/-- A code newly raised has one of the four causes. -/
theorem failureCase_of_raised {i : Instr} {s t : State} {code : ErrCode} (h : t = effect i s) (hcode : code ≠ .none)
    (ht : t.err = code) (hs : s.err ≠ code) : FailureCase i s t := by
  subst h ht
  exact (effectCase i s).failureCase hcode hs.symm

/-- INVALID_TYPE_CODE is raised over a TYPE that is no type code, by ENC_START or the 8th header byte (R302). -/
theorem FailureCase.invalidTypeCode {i : Instr} {s t : State} (h : FailureCase i s t) (ht : t.err = .invalidTypeCode) :
    tcAlpha t.typeCode = false ∧ t.done = false ∧ t.mode = .idle
      ∧ (i = .cmdEncStart ∨ ((∃ data, i = .wrDin data) ∧ s.mode = .dec ∧ s.phase = .hdr ∧ s.idx = 7#3)) := by
  cases h with
  | encStart hi a e => subst e; exact ⟨a, rfl, rfl, .inl hi⟩
  | header data hi m p h7 a e => subst e; exact ⟨a, rfl, rfl, .inr ⟨⟨data, hi⟩, m, p, h7⟩⟩
  | trailer _ _ _ _ _ _ e | decEnd _ _ e => subst e; cases ht

/-- CHECKSUM_MISMATCH is raised by the 4th trailer byte alone, with the received checksum in CRC_RX (R302). -/
theorem FailureCase.checksumMismatch {i : Instr} {s t : State} (h : FailureCase i s t)
    (ht : t.err = .checksumMismatch) :
    crcOutWord t ≠ t.crcRx ∧ s.mode = .dec ∧ s.phase = .trl ∧ s.idx = 3#3
      ∧ ∃ data, i = .wrDin data
        ∧ t = fail .checksumMismatch { s with crcRx := shiftInByte s.crcRx (dinByte data), idx := 0#3 } := by
  cases h with
  | trailer data hi m p h3 c e => exact ⟨by subst e; exact c, m, p, h3, data, hi, e⟩
  | encStart _ _ e | header _ _ _ _ _ _ e | decEnd _ _ e => subst e; cases ht

/-- TRUNCATED_INPUT is raised by DEC_END in DEC mode alone, and the position is kept (R303). -/
theorem FailureCase.truncatedInput {i : Instr} {s t : State} (h : FailureCase i s t) (ht : t.err = .truncatedInput) :
    i = .cmdDecEnd ∧ s.mode = .dec ∧ t = fail .truncatedInput s := by
  cases h with
  | decEnd hi m e => exact ⟨hi, m, e⟩
  | encStart _ _ e | header _ _ _ _ _ _ e | trailer _ _ _ _ _ _ e => subst e; cases ht

/-- What every failure leaves in ERR, DONE and MODE (R300). -/
theorem fail_outcome (code : ErrCode) (s : State) :
    (fail code s).err = code ∧ (fail code s).done = false ∧ (fail code s).mode = .idle :=
  ⟨rfl, rfl, rfl⟩

/-- The 8th header byte fails when TYPE is then no type code (R222). -/
theorem dinEffect_header_invalid {b : Byte} {s : State} (hm : s.mode = .dec) (hp : s.phase = .hdr) (h7 : s.idx = 7#3)
    (ha : tcAlpha (dinEffect b s).typeCode = false) :
    dinEffect b s
      = fail .invalidTypeCode { cover [b] s with typeCode := shiftInByte s.typeCode b, idx := 0#3 } := by
  rw [dinEffect_header_last hm hp h7] at ha ⊢
  rw [headerCheck_typeCode] at ha
  exact headerCheck_of_not_tcAlpha ha

/-- The 4th trailer byte fails when CRC_RX is then not the complement of CRC_STATE (R224). -/
theorem dinEffect_trailer_invalid {b : Byte} {s : State} (hm : s.mode = .dec) (hp : s.phase = .trl) (h3 : s.idx = 3#3)
    (hc : crcOutWord (dinEffect b s) ≠ (dinEffect b s).crcRx) :
    dinEffect b s = fail .checksumMismatch { s with crcRx := shiftInByte s.crcRx b, idx := 0#3 } := by
  refine dinEffect_trailer_mismatch hm hp h3 fun heq => hc ?_
  rw [dinEffect_trailer_accepted hm hp h3 heq]
  exact heq

/-- Settles O48: a code newly raised comes from one of the four failures, and each of them is `fail` with its code. -/
theorem errorCodesHaveExactlyTheirCauses : Obligations.ErrorCodesHaveExactlyTheirCauses := by
  intro i s t h
  have ht : t = effect i s := exec_next_iff.1 h
  refine ⟨fun hc hs => ?onlyType, fun hc hs => ?onlyChecksum, fun hc hs => ?onlyTruncated, ?encStart, ?header, ?trailer,
    ?decEnd⟩
  case onlyType => exact (failureCase_of_raised ht (by decide) hc hs).invalidTypeCode hc
  case onlyChecksum => exact (failureCase_of_raised ht (by decide) hc hs).checksumMismatch hc
  case onlyTruncated => exact (failureCase_of_raised ht (by decide) hc hs).truncatedInput hc
  all_goals subst ht
  case encStart =>
    rintro rfl ha
    rw [effect_cmdEncStart_of_not_tcAlpha ha]
    exact fail_outcome _ _
  case header =>
    rintro ⟨data, rfl⟩ hm hp h7 ha
    rw [effect, dinEffect_header_invalid hm hp h7 ha]
    exact fail_outcome _ _
  case trailer =>
    rintro ⟨data, rfl⟩ hm hp h3 hc
    rw [effect, dinEffect_trailer_invalid hm hp h3 hc]
    exact fail_outcome _ _
  case decEnd =>
    rintro rfl hm
    rw [effect_cmdDecEnd_of_dec hm]
    exact fail_outcome _ _

/-! ## What an outcome survives -/

/-- In IDLE only a start command and CLEAR touch DONE, ERR or MODE (R310). -/
theorem EffectCase.outcome_eq_of_idle {i : Instr} {s t : State} (h : EffectCase i s t) (hs : s.mode = .idle)
    (hi : isStart i = false) (hc : i ≠ .cmdClear) : t.done = s.done ∧ t.err = s.err ∧ t.mode = .idle := by
  cases h with
  | crcInit e | encInvalid e | encEmpty e | encPayload e | decStart e => subst e; cases hi
  | clear e => exact absurd e hc
  | din _ _ m => exact absurd hs m
  | _ => simp_all

/-- Settles O50: the outcome stays in every case of a transaction in IDLE but the two, and only CLEAR clears SEQERR. -/
theorem outcomeStaysUntilStartOrClear : Obligations.OutcomeStaysUntilStartOrClear := by
  intro i s t h
  obtain rfl := exec_next_iff.1 h
  refine ⟨(effectCase i s).outcome_eq_of_idle, fun hs hc => ?_⟩
  by_contra ht
  exact hc (eq_cmdClear_of_effect_clears_seqErr hs (Bool.eq_false_iff.2 ht))

end Sys2Proof.Machine
end

section
/-! SUPPORT. The step that takes the reset signal, and what it leaves of the state before (R330). -/

namespace Sys2Proof.Machine

/-- With the reset signal next, the block takes it and `applyReset` is all the step does (R330). -/
theorem step_of_rst {s : State} {rest : List HostEvent} (h : s.inputs = .rst :: rest) :
    step s = .next (applyReset (takeInput rest s)) := by
  simp only [step, h]

/-- Nothing of the operation in progress survives the reset signal; only the queue is not one of the elements (R52). -/
theorem sameElements_applyReset (s : State) : (applyReset s).SameElements State.reset :=
  ⟨rfl, rfl, rfl, rfl, rfl, rfl, rfl, rfl, rfl, rfl, rfl, rfl⟩

/-- Settles O2: the step is `applyReset`, and from any state that gives every element its reset value. -/
theorem resetSignalSetsEveryElement : Obligations.ResetSignalSetsEveryElement :=
  fun s rest h => ⟨applyReset (takeInput rest s), step_of_rst h, sameElements_applyReset (takeInput rest s)⟩

end Sys2Proof.Machine
end

section
/-! SUPPORT. Decoding and encoding are inverse (R101, R104, R107), and the opcode table selects for every word the row
of its instruction (R105). -/

namespace Sys2Proof

/-! ## Decoding an encoded instruction -/

/-- A write to slot 10 or 11 belongs to the row _10_11, whatever its data. -/
theorem decodeWrite_of_isSlot1011 {slot : Slot} (h : isSlot1011 slot = true) (data : Word) :
    decodeWrite slot data = .wrRsvd1011 slot data := by
  have hs : slot = 10 ∨ slot = 11 := by revert slot; decide
  rcases hs with rfl | rfl <;> rfl

/-- A read of slot 10 or 11 belongs to the row _10_11. -/
theorem decodeRead_of_isSlot1011 {slot : Slot} (h : isSlot1011 slot = true) : decodeRead slot = .rdRsvd1011 slot := by
  revert slot; decide

/-- Settles O10: an instruction's word is assembled from the slot and data by which the decoder finds it;
well-formedness says so for the operands that share a row. -/
theorem decodeEncodeAgree : Obligations.DecodeEncodeAgree := by
  intro i h
  cases i
  case cmdRsvd data =>
    exact (decode_tWrite 0 data).trans (decodeCommand_of_not_isCommandWord (by simpa [Instr.wf] using h))
  case wrRsvd1011 slot data => exact (decode_tWrite slot data).trans (decodeWrite_of_isSlot1011 h data)
  case wrRsvd1215 slot data => exact (decode_tWrite slot data).trans (decodeWrite_of_isSlot1215 h data)
  case rdRsvd1011 slot => exact (decode_tRead slot).trans (decodeRead_of_isSlot1011 h)
  case rdRsvd1215 slot => exact (decode_tRead slot).trans (decodeRead_of_isSlot1215 h)
  case rdCmd | rdStatus | rdType | rdLen | rdTcprop | rdCrcState | rdCrcOut | rdCrcRx | rdCnt | rdDin =>
    exact decode_tRead _
  all_goals exact decode_tWrite _ _

/-! ## Encoding a decoded word -/

/-- A T word is assembled from its three fields (R101). -/
theorem tWord_fields (w : TWord) : tWord (BitVec.ofBool w.isWrite) w.addr w.data = w := by
  apply BitVec.eq_of_getLsbD_eq
  intro k hk
  rw [getLsbD_tWord, TWord.data, TWord.addr, TWord.isWrite, BitVec.getLsbD_extractLsb', BitVec.getLsbD_extractLsb',
    BitVec.getLsbD_ofBool]
  split_ifs with h32 h36
  · simp [h32]
  · simp [h36, show 32 + (k - 32) = k by omega]
  · simp [show k = 36 by omega]

/-- A write is the word of its slot and data. -/
theorem tWrite_fields {w : TWord} (h : w.isWrite = true) : tWrite w.addr w.data = w := by
  conv_rhs => rw [← tWord_fields w, h]
  rfl

/-- A read's canonical form keeps rw and addr alone (R107). -/
theorem tRead_addr {w : TWord} (h : w.isWrite = false) : tRead w.addr = w &&& 0x1F00000000 := by
  conv_rhs => rw [← tWord_fields w, Laws.InOwnRow.tWord_and_slotMask, h]
  rfl

/-- The instruction of a CMD write is well formed and its word holds the data whole (R102, R103). -/
theorem decodeCommand_spec (data : Word) :
    (decodeCommand data).wf = true ∧ encode (decodeCommand data) = tWrite 0 data := by
  by_cases hc : isCommandWord data = true
  · rw [decodeCommand_eq_ite]
    have hdata : data ≠ 0 ∧ ¬ 7 < data := by
      simpa [isCommandWord_eq_false_iff] using mt isCommandWord_eq_false_iff.2 (by simp [hc])
    split_ifs
    case neg => bv_omega
    all_goals subst data; exact ⟨rfl, rfl⟩
  · have hc : isCommandWord data = false := Bool.eq_false_iff.2 hc
    rw [decodeCommand_of_not_isCommandWord hc]
    exact ⟨by simp [Instr.wf, hc], rfl⟩

/-- A slot is one of the row _12_15, or one of 0 to 11. -/
theorem slot_cases (slot : Slot) :
    isSlot1215 slot = true ∨ slot = 0 ∨ slot = 1 ∨ slot = 2 ∨ slot = 3 ∨ slot = 4 ∨ slot = 5 ∨ slot = 6 ∨ slot = 7
      ∨ slot = 8 ∨ slot = 9 ∨ slot = 10 ∨ slot = 11 := by
  revert slot; decide

/-- The instruction of a write is well formed and its word is that of the slot and data (R104). -/
theorem decodeWrite_spec (slot : Slot) (data : Word) :
    (decodeWrite slot data).wf = true ∧ encode (decodeWrite slot data) = tWrite slot data := by
  rcases slot_cases slot with h | rfl | rfl | rfl | rfl | rfl | rfl | rfl | rfl | rfl | rfl | rfl | rfl
  · rw [decodeWrite_of_isSlot1215 h]
    exact ⟨h, rfl⟩
  · exact decodeCommand_spec data
  all_goals exact ⟨rfl, rfl⟩

/-- The instruction of a read is well formed and its word is the canonical read of the slot (R104). -/
theorem decodeRead_spec (slot : Slot) :
    (decodeRead slot).wf = true ∧ encode (decodeRead slot) = tRead slot := by
  revert slot; decide

/-- Settles O11: both halves of the table give back the slot and, for a write, the data they were selected by. -/
theorem encodeDecodeIsCanonical : Obligations.EncodeDecodeIsCanonical := by
  intro w
  cases hw : w.isWrite
  case true =>
    obtain ⟨hwf, henc⟩ := decodeWrite_spec w.addr w.data
    rw [decode_of_isWrite hw, henc, tWrite_fields hw]
    exact ⟨hwf, fun _ => rfl, nofun⟩
  case false =>
    obtain ⟨hwf, henc⟩ := decodeRead_spec w.addr
    rw [decode_of_not_isWrite hw, henc, tRead_addr hw]
    exact ⟨hwf, nofun, fun _ => rfl⟩

/-! ## The rows of the opcode table -/

/-- The row of the instruction a slot of a write selects, apart from the commands, does not depend on the data. -/
theorem tableRow_decodeWrite {slot : Slot} {data : Word} (h : slot = 0 → isCommandWord data = false) :
    (decodeWrite slot data).tableRow = (decodeWrite slot 0).tableRow := by
  rcases slot_cases slot with h' | rfl | rfl | rfl | rfl | rfl | rfl | rfl | rfl | rfl | rfl | rfl | rfl
  · rw [decodeWrite_of_isSlot1215 h', decodeWrite_of_isSlot1215 h']
    rfl
  · show (decodeCommand data).tableRow = 7
    rw [decodeCommand_of_not_isCommandWord (h rfl)]
    rfl
  all_goals rfl

/-- A CMD write of a command word (R103). -/
def TWord.isCommand (w : TWord) : Prop := w.isWrite = true ∧ w.addr = 0 ∧ isCommandWord w.data = true

/-- Apart from the command words, rw and addr select the row. -/
theorem tableRow_decode {w : TWord} (h : ¬ w.isCommand) :
    (decode w).tableRow = (decode (tWord (BitVec.ofBool w.isWrite) w.addr 0)).tableRow := by
  cases hw : w.isWrite
  case true =>
    rw [decode_of_isWrite hw, tableRow_decodeWrite fun ha => Bool.eq_false_iff.2 fun hc => h ⟨hw, ha, hc⟩]
    exact congrArg Instr.tableRow (decode_tWrite w.addr 0).symm
  case false =>
    rw [decode_of_not_isWrite hw]
    exact congrArg Instr.tableRow (decode_tRead w.addr).symm

/-- A command's row fixes every bit, so its pattern is the one word it accepts (R105). -/
theorem eq_tableRow_of_commandRow_accepts {w : TWord} {k : Nat} {r : OpcodeRow} (hk : k < 7)
    (hr : opcodeTable[k]? = some r) (ha : r.accepts w = true) : k = (decode w).tableRow := by
  have hrow : ∀ k < 7, ∀ r ∈ opcodeTable[k]?, r.mask = BitVec.allOnes 37 ∧ k = (decode r.pattern).tableRow := by decide
  obtain ⟨hmask, htable⟩ := hrow k hk r hr
  have hw : w &&& r.mask = r.pattern := of_decide_eq_true ha
  rw [hmask, BitVec.and_allOnes] at hw
  rw [hw]
  exact htable

/-- The rows from WR_CMD_RSVD on look at rw and addr alone. -/
theorem accepts_iff_of_slotRow {k : Nat} {r : OpcodeRow} (hk : 7 ≤ k) (hr : opcodeTable[k]? = some r) (w : TWord) :
    r.accepts w = r.accepts (tWord (BitVec.ofBool w.isWrite) w.addr 0) := by
  have hrow : ∀ k < 31, 7 ≤ k → ∀ r ∈ opcodeTable[k]?, 0x1F00000000 &&& r.mask = r.mask := by decide
  have hmask := hrow k (List.getElem?_eq_some_iff.1 hr).1 hk r hr
  rw [OpcodeRow.accepts, OpcodeRow.accepts, ← hmask, ← BitVec.and_assoc, ← BitVec.and_assoc,
    Laws.InOwnRow.tWord_and_slotMask]
  conv_lhs => rw [← tWord_fields w, Laws.InOwnRow.tWord_and_slotMask]

/-- Among those rows rw and addr belong to the decoded instruction's alone. -/
theorem eq_tableRow_of_slotRow_accepts (rw : BitVec 1) (slot : Slot) {k : Nat} {r : OpcodeRow} (hk : 7 ≤ k)
    (hr : opcodeTable[k]? = some r) (ha : r.accepts (tWord rw slot 0) = true) :
    k = (decode (tWord rw slot 0)).tableRow := by
  have hrow : ∀ k < 31, 7 ≤ k → ∀ r ∈ opcodeTable[k]?, ∀ rw slot,
      r.accepts (tWord rw slot 0) = true → k = (decode (tWord rw slot 0)).tableRow := by decide +kernel
  exact hrow k (List.getElem?_eq_some_iff.1 hr).1 hk r hr rw slot ha

/-- A row that accepts a word is its instruction's, or WR_CMD_RSVD for a command word (R105). -/
theorem eq_tableRow_of_accepts {w : TWord} {k : Nat} {r : OpcodeRow} (hr : opcodeTable[k]? = some r)
    (ha : r.accepts w = true) : k = (decode w).tableRow ∨ (k = 7 ∧ w.isCommand) := by
  by_cases hk : k < 7
  · exact .inl (eq_tableRow_of_commandRow_accepts hk hr ha)
  · have hk : 7 ≤ k := Nat.not_lt.1 hk
    rw [accepts_iff_of_slotRow hk hr] at ha
    have hrow := eq_tableRow_of_slotRow_accepts _ _ hk hr ha
    by_cases hc : w.isCommand
    · obtain ⟨hw, haddr, -⟩ := id hc
      rw [hw, haddr] at hrow
      exact .inr ⟨hrow, hc⟩
    · exact .inl (hrow.trans (tableRow_decode hc).symm)

open Laws.InOwnRow in
/-- The word of every well-formed instruction belongs to its row. -/
theorem inOwnRow (i : Instr) : Statement i := by
  cases i
  exacts [cmdCrcInit, cmdCrcEnd, cmdEncStart, cmdDecStart, cmdDecEnd, cmdAbort, cmdClear, cmdRsvd _, wrStatus _,
    wrType _, wrLen _, wrTcprop _, wrCrcState _, wrCrcOut _, wrCrcRx _, wrCnt _, wrDin _, wrRsvd1011 _ _,
    wrRsvd1215 _ _, rdCmd, rdStatus, rdType, rdLen, rdTcprop, rdCrcState, rdCrcOut, rdCrcRx, rdCnt, rdDin,
    rdRsvd1011 _, rdRsvd1215 _]

theorem le_tableRow_decodeRead (slot : Slot) : 7 ≤ (decodeRead slot).tableRow := by
  revert slot; decide

/-- Every word belongs to the row of its instruction, whatever its data when it is a read (R107). -/
theorem tableRow_accepts (w : TWord) : ∃ r, opcodeTable[(decode w).tableRow]? = some r ∧ r.accepts w = true := by
  obtain ⟨hwf, hwrite, -⟩ := encodeDecodeIsCanonical w
  obtain ⟨r, hr, ha⟩ := inOwnRow (decode w) hwf
  refine ⟨r, hr, ?_⟩
  cases hw : w.isWrite
  case true => rwa [hwrite hw] at ha
  case false =>
    rw [decode_of_not_isWrite hw] at hr ha
    rw [(decodeRead_spec w.addr).2] at ha
    rwa [accepts_iff_of_slotRow (le_tableRow_decodeRead w.addr) hr, hw]

/-- The seven command rows stand before WR_CMD_RSVD. -/
theorem tableRow_lt_of_isCommand {w : TWord} (h : w.isCommand) : (decode w).tableRow < 7 := by
  obtain ⟨hw, ha, hc⟩ := h
  have hdata : w.data ≠ 0 ∧ ¬ 7 < w.data := not_or.1 fun h => by simp [isCommandWord_eq_false_iff.2 h] at hc
  have hd : decode w = decodeCommand w.data := by rw [decode_of_isWrite hw, ha]; rfl
  rw [hd, decodeCommand_eq_ite]
  split_ifs
  case neg => bv_omega
  all_goals decide

/-- Settles O12: the decoded instruction's row accepts the word, and the one other row that can stands behind it. -/
theorem everyWordSelectsOneRow : Obligations.EveryWordSelectsOneRow := by
  refine fun w => ⟨?selected, fun k r hr ha => ?only⟩
  case selected =>
    obtain ⟨r, hr, ha⟩ := tableRow_accepts w
    refine ⟨r, hr, ?_⟩
    obtain ⟨hlen, hget⟩ := List.getElem?_eq_some_iff.1 hr
    refine List.find?_eq_some_iff_getElem.2 ⟨ha, _, hlen, hget, fun j hj => ?_⟩
    by_contra haj
    rcases eq_tableRow_of_accepts (List.getElem?_eq_getElem (hj.trans hlen)) (by simpa using haj) with h | ⟨h, hc⟩
    · exact absurd h hj.ne
    · have := tableRow_lt_of_isCommand hc
      omega
  case only =>
    refine (eq_tableRow_of_accepts hr ha).imp_right fun ⟨hk, hw, haddr, hc⟩ => ?_
    obtain ⟨hlo, hhi⟩ : 1 ≤ w.data ∧ w.data ≤ 7 := by simpa [isCommandWord] using hc
    exact ⟨hk, hw, haddr, hlo, hhi⟩

/-! ## Words of the test vectors -/

/-- Settles O7: each word is evaluated. -/
theorem vectorWordsDecode : Obligations.VectorWordsDecode := by
  unfold Obligations.VectorWordsDecode
  decide

end Sys2Proof
end

section
/-! SUPPORT. The invariant of reachable states: it holds at reset and every step keeps it. -/

namespace Sys2Proof.Machine

/-! ## What the invariant asks of a state in each mode and phase -/

section
variable {s : State}

/-- The invariant in CRC mode (R38, R39). -/
theorem State.Inv.of_crc (hm : s.mode = .crc) (hb : s.done = false ∧ s.err = .none)
    (h : s.phase = .hdr ∧ s.idx = 0) : s.Inv where
  outcome _ := hb.2
  busy _ := hb
  crc _ := h
  enc := by simp [hm]
  encOut := by simp [hm]
  decHdr := by simp [hm]
  decPay := by simp [hm]
  decTrl := by simp [hm]

/-- The invariant in ENC mode (R194, R198). -/
theorem State.Inv.of_enc (hm : s.mode = .enc) (hb : s.done = false ∧ s.err = .none)
    (h : s.phase = .pay ∧ s.idx = 0 ∧ s.cnt < s.len ∧ tcAlpha s.typeCode = true)
    (ho : ∃ before p, s.out = before ++ (be32 s.len ++ typeBytes s.typeCode ++ p) ∧ s.covers p) : s.Inv where
  outcome _ := hb.2
  busy _ := hb
  crc := by simp [hm]
  enc _ := h
  encOut _ := ho
  decHdr := by simp [hm]
  decPay := by simp [hm]
  decTrl := by simp [hm]

/-- The invariant in DEC mode, header (R221). -/
theorem State.Inv.of_decHdr (hm : s.mode = .dec) (hp : s.phase = .hdr) (hb : s.done = false ∧ s.err = .none)
    (h : s.InHeader) : s.Inv where
  outcome _ := hb.2
  busy _ := hb
  crc := by simp [hm]
  enc := by simp [hm]
  encOut := by simp [hm]
  decHdr _ _ := h
  decPay := by simp [hp]
  decTrl := by simp [hp]

/-- The invariant in DEC mode, payload (R222, R223). -/
theorem State.Inv.of_decPay (hm : s.mode = .dec) (hp : s.phase = .pay) (hb : s.done = false ∧ s.err = .none)
    (h : s.idx = 0 ∧ s.cnt < s.len ∧ s.crcRx = 0 ∧ tcAlpha s.typeCode = true ∧ ∃ p, s.covers p) : s.Inv where
  outcome _ := hb.2
  busy _ := hb
  crc := by simp [hm]
  enc := by simp [hm]
  encOut := by simp [hm]
  decHdr := by simp [hp]
  decPay _ _ := h
  decTrl := by simp [hp]

/-- The invariant in DEC mode, trailer (R222 to R224). -/
theorem State.Inv.of_decTrl (hm : s.mode = .dec) (hp : s.phase = .trl) (hb : s.done = false ∧ s.err = .none)
    (h : s.idx < 4 ∧ s.cnt = s.len ∧ s.crcRx.toNat < 2 ^ (8 * s.idx.toNat) ∧ tcAlpha s.typeCode = true
      ∧ ∃ p, s.covers p) : s.Inv where
  outcome _ := hb.2
  busy _ := hb
  crc := by simp [hm]
  enc := by simp [hm]
  encOut := by simp [hm]
  decHdr := by simp [hp]
  decPay := by simp [hp]
  decTrl _ _ := h

end

/-! ## Header bytes -/

/-- Taking the next byte drops the first of a register's four (R9, R221). -/
theorem be32_shiftInByte (r : Word) (b : Byte) : be32 (shiftInByte r b) = (be32 r).drop 1 ++ [b] := by
  have hshift {n m : Nat} (hn : n = m + 8) (hm : m + 8 ≤ 24) :
      (shiftInByte r b).extractLsb' n 8 = r.extractLsb' m 8 := by
    ext k hk
    simp only [shiftInByte, BitVec.getElem_extractLsb', BitVec.getLsbD_or, BitVec.getLsbD_shiftLeft, getLsbD_zext32]
    rw [b.getLsbD_of_ge _ (by omega), show n + k - 8 = m + k by omega]
    simp [show n + k < 32 by omega, show ¬ n + k < 8 by omega]
  have hlast : (shiftInByte r b).extractLsb' 0 8 = b := by
    ext k hk
    simp only [shiftInByte, BitVec.getElem_extractLsb', BitVec.getLsbD_or, BitVec.getLsbD_shiftLeft, getLsbD_zext32]
    simp [hk]
  simp only [be32, hshift (n := 24) (m := 16), hshift (n := 16) (m := 8), hshift (n := 8) (m := 0), hlast,
    Nat.reduceAdd, Nat.reduceLeDiff, List.drop_succ_cons, List.drop_zero, List.cons_append, List.nil_append]

/-- The type bytes among the bytes taken, when the next one is a type byte (R221). -/
theorem typeBytes_shiftInByte_drop (t : Word) (b : Byte) {n : Nat} (hn : n ≤ 3) :
    (typeBytes (shiftInByte t b)).drop n = (typeBytes t).drop (n + 1) ++ [b] := by
  rw [typeBytes, be32_shiftInByte, List.drop_append_of_le_length (by simpa using hn), List.drop_drop, Nat.add_comm 1]
  rfl

theorem toNat_idx_succ {i : BitVec 3} (h7 : i ≠ 7#3) : (i + 1#3).toNat = i.toNat + 1 := by
  revert i; decide

/-- A length byte keeps what the invariant says of the header (R221). -/
theorem State.InHeader.length_byte {s : State} (h : s.InHeader) (b : Byte) (h4 : s.idx < 4#3) :
    ({ s with len := shiftInByte s.len b, idx := s.idx + 1#3 } : State).InHeader := by
  have hi : s.idx.toNat < 4 := h4
  have hidx := toNat_idx_succ (i := s.idx) (by bv_omega)
  have htype := h.typeCode
  have hcrc := h.crcState
  refine ⟨h.cnt, h.crcRx, ?_, ?_, ?_⟩ <;> dsimp only <;> rw [hidx]
  · exact shiftInByte_lt _ _ _ h.len
  · rwa [show s.idx.toNat + 1 - 4 = s.idx.toNat - 4 by omega]
  · rw [List.drop_of_length_le (by simp; omega)] at hcrc ⊢
    exact hcrc

/-- A type byte before the 8th header byte keeps what the invariant says of the header (R221). -/
theorem State.InHeader.type_byte {s : State} (h : s.InHeader) (b : Byte) (h4 : 4#3 ≤ s.idx) (h7 : s.idx ≠ 7#3) :
    ({ cover [b] s with typeCode := shiftInByte s.typeCode b, idx := s.idx + 1#3 } : State).InHeader := by
  have hlo : 4 ≤ s.idx.toNat := h4
  have hhi : s.idx.toNat < 7 := by bv_omega
  refine ⟨h.cnt, h.crcRx, ?_, ?_, ?_⟩ <;> dsimp only [cover] <;> rw [toNat_idx_succ h7]
  · exact lt_of_lt_of_le h.len (Nat.pow_le_pow_right (by decide) (by omega))
  · rw [show s.idx.toNat + 1 - 4 = s.idx.toNat - 4 + 1 by omega]
    exact shiftInByte_lt _ _ _ h.typeCode
  · rw [typeBytes_shiftInByte_drop _ _ (by omega), show 8 - (s.idx.toNat + 1) + 1 = 8 - s.idx.toNat by omega,
      crcFold_append, ← h.crcState]

/-- After the 8th header byte the checksum covers the type bytes and no payload (R221, R222). -/
theorem State.InHeader.covers_nil {s t : State} (h : s.InHeader) (b : Byte) (h7 : s.idx = 7#3)
    (hc : t.cnt = s.cnt) (ht : t.typeCode = shiftInByte s.typeCode b) (hcrc : t.crcState = crc8 s.crcState b) :
    t.covers [] := by
  have hbytes := typeBytes_shiftInByte_drop s.typeCode b (Nat.zero_le 3)
  have hold : s.crcState = crcFold crcInitial ((typeBytes s.typeCode).drop 1) := by
    have := h.crcState
    rwa [h7] at this
  refine ⟨by rw [hc, h.cnt]; rfl, ?_⟩
  rw [hcrc, hold, ht, List.append_nil, ← crcFold_concat, ← hbytes, List.drop_zero]

/-! ## The invariant is kept -/

/-- A DIN byte keeps the invariant (R165, R194, R221 to R224). -/
theorem DinCase.keeps_inv {b : Byte} {s t : State} (h : DinCase b s t) (hi : s.Inv) : t.Inv := by
  have hbusy := hi.busy
  cases h with
  | idle m e => exact e ▸ hi.withSeqErr true
  | crc m e => subst e; exact .of_crc m (hbusy (by simp [m])) (hi.crc m)
  | encLast m h e => subst e; exact .of_idle rfl fun _ => (hbusy (by simp [m])).2
  | enc m h e =>
    obtain ⟨hp, hidx, hlt, ha⟩ := hi.enc m
    obtain ⟨before, p, hout, hcov⟩ := hi.encOut m
    subst e
    refine .of_enc m (hbusy (by simp [m])) ⟨hp, hidx, succ_lt_of_lt hlt h, ha⟩
      ⟨before, p ++ [b], ?_, State.covers_append (s := s) b hcov hlt rfl rfl rfl⟩
    simp [hout]
  | headerLength m p h h7 e =>
    subst e; exact .of_decHdr m p (hbusy (by simp [m])) ((hi.decHdr m p).length_byte b h)
  | headerType m p h h7 e =>
    subst e; exact .of_decHdr m p (hbusy (by simp [m])) ((hi.decHdr m p).type_byte b h h7)
  | headerInvalid m p h7 a e | mismatch m p h c e => subst e; exact .of_idle rfl nofun
  | headerEmpty m p h7 a l e =>
    have hh := hi.decHdr m p
    subst e
    refine .of_decTrl m rfl (hbusy (by simp [m])) ⟨(by decide : 0#3 < 4), hh.cnt.trans l.symm, ?_, a, [],
      hh.covers_nil b h7 rfl rfl rfl⟩
    simp [hh.crcRx]
  | headerPayload m p h7 a l e =>
    have hh := hi.decHdr m p
    subst e
    refine .of_decPay m rfl (hbusy (by simp [m])) ⟨rfl, ?_, hh.crcRx, a, [], hh.covers_nil b h7 rfl rfl rfl⟩
    have hcnt := hh.cnt
    show s.cnt < s.len
    bv_omega
  | payloadLast m p h e =>
    obtain ⟨hidx, hlt, hrx, ha, q, hcov⟩ := hi.decPay m p
    subst e
    refine .of_decTrl m rfl (hbusy (by simp [m]))
      ⟨?_, h, ?_, ha, q ++ [b], State.covers_append (s := s) b hcov hlt rfl rfl rfl⟩
    · simp [hidx]
    · simp [hrx]
  | payload m p h e =>
    obtain ⟨hidx, hlt, hrx, ha, q, hcov⟩ := hi.decPay m p
    subst e
    exact .of_decPay m p (hbusy (by simp [m]))
      ⟨hidx, succ_lt_of_lt hlt h, hrx, ha, q ++ [b], State.covers_append (s := s) b hcov hlt rfl rfl rfl⟩
  | trailer m p h e =>
    obtain ⟨hidx, hcnt, hrx, ha, q, hcov⟩ := hi.decTrl m p
    subst e
    refine .of_decTrl m p (hbusy (by simp [m])) ⟨?_, hcnt, ?_, ha, q, hcov⟩
    · show s.idx + 1#3 < 4
      bv_omega
    · show (shiftInByte s.crcRx b).toNat < 2 ^ (8 * (s.idx + 1#3).toNat)
      rw [toNat_idx_succ (by bv_omega)]
      exact shiftInByte_lt _ _ _ hrx
  | accepted m p h c e => subst e; exact .of_idle rfl fun _ => (hbusy (by simp [m])).2

/-- The invariant survives a write of TYPE or LEN in IDLE or CRC mode, where neither is in use (R138, R191). -/
theorem State.Inv.withTypeLen {s : State} (hi : s.Inv) (hm : s.mode = .idle ∨ s.mode = .crc) (t l : Word) :
    ({ s with typeCode := t, len := l } : State).Inv := by
  rcases hm with m | m
  · exact .of_idle m hi.outcome
  · exact .of_crc m (hi.busy (by simp [m])) (hi.crc m)

/-- CLEAR keeps the invariant: the outcome it clears is clear already while an operation is in progress (R261, R336). -/
theorem State.Inv.clear {s : State} (hi : s.Inv) :
    ({ s with done := false, err := .none, seqErr := false } : State).Inv := by
  by_cases m : s.mode = .idle
  · exact .of_idle m nofun
  · obtain ⟨hd, he⟩ := hi.busy m
    have e : ({ s with done := false, err := .none, seqErr := false } : State) = { s with seqErr := false } := by
      simp [hd, he]
    exact e ▸ hi.withSeqErr false

/-- A transaction keeps the invariant. -/
theorem EffectCase.keeps_inv {i : Instr} {s t : State} (h : EffectCase i s t) (hi : s.Inv) : t.Inv := by
  cases h with
  | violation v e => exact e ▸ hi.withSeqErr true
  | read r v e => exact e ▸ hi.congr (sameElements_respond v s)
  | crcInit _ e => subst e; exact .of_crc rfl ⟨rfl, rfl⟩ ⟨rfl, rfl⟩
  | crcEnd _ m e => subst e; exact .of_idle rfl fun _ => (hi.busy (by simp [m])).2
  | encInvalid _ _ e | decEnd _ _ e => subst e; exact .of_idle rfl nofun
  | encEmpty _ _ _ e => subst e; exact .of_idle rfl fun _ => rfl
  | encPayload _ a l e =>
    subst e
    refine .of_enc rfl ⟨rfl, rfl⟩ ⟨rfl, rfl, ?_, a⟩ ⟨s.out, [], ?_, rfl, ?_⟩
    · show 0#32 < s.len
      bv_omega
    · rw [encHeader_out, List.append_nil]; rfl
    · rw [List.append_nil]; rfl
  | decStart _ e => subst e; exact .of_decHdr rfl rfl ⟨rfl, rfl⟩ ⟨rfl, rfl, Nat.two_pow_pos _, Nat.two_pow_pos _, rfl⟩
  | abort _ e =>
    subst e
    exact .of_idle rfl hi.outcome
  | clear _ e => exact e ▸ hi.clear
  | writeType data _ m e => subst e; exact hi.withTypeLen m data s.len
  | writeLen data _ m e => subst e; exact hi.withTypeLen m s.typeCode data
  | din data _ _ d => exact d.keeps_inv hi

/-- Settles O56: in IDLE the invariant asks for the outcome alone, and DONE is clear. -/
theorem invariantHoldsAtReset : Obligations.InvariantHoldsAtReset :=
  .of_idle rfl nofun

/-- Settles O57: a step waits, takes the reset signal, or performs a transaction, which keeps the invariant. -/
theorem stepKeepsInvariant : Obligations.StepKeepsInvariant := by
  intro s t hi h
  rcases step_cases h with ⟨-, rfl⟩ | ⟨rest, -, rfl⟩ | ⟨w, rest, -, rfl⟩
  · exact hi
  · exact invariantHoldsAtReset.withInputs rest
  · have htake : s.SameElements (takeInput rest s) := ⟨rfl, rfl, rfl, rfl, rfl, rfl, rfl, rfl, rfl, rfl, rfl, rfl⟩
    exact (effectCase (decode w) (takeInput rest s)).keeps_inv (hi.congr htake)

end Sys2Proof.Machine
end

section
/-! SUPPORT. Outcomes and frames over every transaction: failure against violation (R308), the end of an operation
(R339), start commands (R336), and the registers an operation owns (R337). -/

namespace Sys2Proof.Machine

/-! ## Failure and violation -/

/-- Each way to fail leaves SEQERR as it was (R308). -/
theorem FailureCase.seqErr_eq {i : Instr} {s t : State} (h : FailureCase i s t) : t.seqErr = s.seqErr := by
  cases h with
  | encStart _ _ e | header _ _ _ _ _ _ e | trailer _ _ _ _ _ _ e | decEnd _ _ e => rw [e]; rfl

/-- Settles O49: a violation leaves ERR, so what raises a code is none and fails in one of the four ways; what changes
SEQERR, other than CLEAR, is a violation. -/
theorem failureAndViolationExcludeEachOther : Obligations.FailureAndViolationExcludeEachOther := by
  intro i s t h
  obtain rfl := exec_next_iff.1 h
  refine ⟨fun hn hne => ⟨((effectCase i s).failureCase hn hne).seqErr_eq, fun hv => hne ?failed⟩,
    fun hne hc => ?changed⟩
  case failed => rw [effect_of_isViolation hv, seqerr_err]
  case changed =>
    have hv : isViolation i s := not_imp_comm.1 (fun hv => (effectCase i s).seqErr_eq hv hc) hne
    rw [effect_of_isViolation hv]
    exact ⟨rfl, rfl, rfl⟩

/-! ## The end of an operation -/

/-- Settles O52: ABORT keeps the clear outcome of a busy state; anything else that returns to IDLE leaves DONE or an
error, and the invariant after it says that not both stand. -/
theorem operationEndsWithOneOutcome : Obligations.OperationEndsWithOneOutcome := by
  intro i s t hi hs h ht
  obtain rfl := exec_next_iff.1 h
  have hcase := effectCase i s
  by_cases ha : i = .cmdAbort
  · subst ha
    exact .inl ⟨rfl, hi.busy hs⟩
  · refine .inr ⟨ha, ?_⟩
    have hout := (hcase.keeps_inv hi).outcome
    have hend := (hcase.returns_to_idle hs ht).resolve_left ha
    cases hd : (effect i s).done
    · exact .inr ⟨rfl, hend.resolve_left (by simp [hd])⟩
    · exact .inl ⟨rfl, hout hd⟩

/-! ## Start commands -/

/-- A start command's next state does not depend on MODE (R336). -/
theorem effect_start_mode {i : Instr} (hi : isStart i = true) (s : State) (m : Mode) :
    effect i { s with mode := m } = effect i s := by
  cases i <;> cases hi
  case cmdEncStart =>
    simp only [effect, encStartEffect]
    split_ifs <;> rfl
  all_goals rfl

/-- A start command that does not fail leaves no error, and does the same whatever the operation in progress has left in
its position, counter, checksum register and outcome (R336). -/
theorem effect_start_of_not_failing {i : Instr} {s : State} (hi : isStart i = true)
    (ha : tcAlpha s.typeCode = true ∨ i ≠ .cmdEncStart) :
    (effect i s).err = .none
      ∧ ∀ (m : Mode) (ph : Phase) (k : BitVec 3) (c n : Word) (d : Bool) (e : ErrCode),
        effect i { s with mode := m, phase := ph, idx := k, crcState := c, cnt := n, done := d, err := e }
          = effect i s := by
  cases i <;> cases hi
  case cmdEncStart =>
    have ha : tcAlpha s.typeCode = true := ha.resolve_right (absurd rfl)
    simp only [effect, encStartEffect, if_pos ha]
    split_ifs <;> exact ⟨rfl, fun _ _ _ _ _ _ _ => rfl⟩
  all_goals exact ⟨rfl, fun _ _ _ _ _ _ _ => rfl⟩

/-- A start command is no violation and not CLEAR, so it keeps SEQERR (R336). -/
theorem effect_start_seqErr {i : Instr} (hi : isStart i = true) (s : State) : (effect i s).seqErr = s.seqErr := by
  refine (effectCase i s).seqErr_eq ?_ ?_
  · cases i <;> cases hi <;> simp [isViolation, namesNoOperation]
  · rintro rfl
    cases hi

/-- Settles O54: what a start command's next state depends on, and what it keeps. -/
theorem startCommandsAbandonTheOperation : Obligations.StartCommandsAbandonTheOperation := by
  intro i s t hi h
  obtain rfl := exec_next_iff.1 h
  refine ⟨fun m => ?mode, fun ha => ?ok, effect_out_append i s, effect_start_seqErr hi s⟩
  case mode => rw [exec_eq_effect, effect_start_mode hi]
  case ok =>
    obtain ⟨herr, hsame⟩ := effect_start_of_not_failing hi ha
    exact ⟨herr, fun m ph k c n d e => by rw [exec_eq_effect, hsame]⟩

/-! ## Owned registers -/

/-- A DIN byte in ENC mode keeps TYPE and LEN (R194). -/
theorem DinCase.keeps_type_len_of_enc {b : Byte} {s t : State} (h : DinCase b s t) (hm : s.mode = .enc) :
    t.typeCode = s.typeCode ∧ t.len = s.len := by
  cases h with
  | encLast _ _ e | enc _ _ e => subst e; exact ⟨rfl, rfl⟩
  | _ => simp_all

/-- In ENC mode only DEC_START changes TYPE or LEN (R337). -/
theorem EffectCase.keeps_type_len_of_enc {i : Instr} {s t : State} (h : EffectCase i s t) (hm : s.mode = .enc)
    (hi : i ≠ .cmdDecStart) : t.typeCode = s.typeCode ∧ t.len = s.len := by
  cases h with
  | decStart h => exact absurd h hi
  | din data _ _ d => exact d.keeps_type_len_of_enc hm
  | writeType _ _ m | writeLen _ _ m => simp [hm] at m
  | _ => simp_all [encHeader]

/-- Settles O55: in ENC and DEC mode the writes are violations; in ENC mode no case but DEC_START touches the
registers. -/
theorem ownedRegistersKeepTheirValue : Obligations.OwnedRegistersKeepTheirValue := by
  intro i s t h
  obtain rfl := exec_next_iff.1 h
  refine ⟨fun hm hw => ?_, (effectCase i s).keeps_type_len_of_enc⟩
  rw [effect_of_isViolation (.inr (.inl ⟨hw, hm⟩))]
  exact ⟨rfl, rfl⟩

end Sys2Proof.Machine
end

section
/-! SUPPORT. The step and the queue: what a step performs (R76, R272), and that a queue is performed in order (R81). -/

namespace Sys2Proof.Machine

theorem step_of_nil {s : State} (h : s.inputs = []) : step s = .next s := by
  simp only [step, h]

/-- With a T word next, the step performs its transaction (R76). -/
theorem step_of_txn {s : State} {w : TWord} {rest : List HostEvent} (h : s.inputs = .txn w :: rest) :
    step s = exec (decode w) { s with inputs := rest, response := none } := by
  simp only [step, h, takeInput]

/-- Settles O3: the three cases of a step, and for an encoded instruction what its word decodes to. -/
theorem stepPerformsDecodedTransaction : Obligations.StepPerformsDecodedTransaction := by
  refine fun s => ⟨step_of_nil, fun rest => step_of_rst, fun w rest => step_of_txn, fun i rest hi h => ?_⟩
  rw [step_of_txn h, decodeEncodeAgree i hi]

/-- A width that holds every T word places it unchanged. -/
theorem withFetchWord_toNat (s : State) (w : TWord) {nbits : Nat} (h : 37 ≤ nbits) :
    s.withFetchWord nbits w.toNat = issueFirst w s := by
  have hw : w.toNat % 2 ^ nbits = w.toNat :=
    Nat.mod_eq_of_lt (lt_of_lt_of_le w.isLt (Nat.pow_le_pow_right (by decide) h))
  simp only [State.withFetchWord, tWordOfNat, hw, if_pos w.isLt, BitVec.ofNat_toNat, BitVec.setWidth_eq]

/-- Settles O4: the placed word is the next the block takes, and it decodes to its instruction. -/
theorem fetchWordRunsItsTransaction : Obligations.FetchWordRunsItsTransaction := by
  intro s i hi
  have hstep : step (issueFirst (encode i) s) = exec i { s with response := none } := by
    rw [step_of_txn (issueFirst_inputs s _), decodeEncodeAgree i hi]
    rfl
  rw [withFetchWord_toNat _ _ (by decide), withFetchWord_toNat _ _ (by decide)]
  exact ⟨hstep, hstep⟩

/-- Settles O5: `exec` answers `effect`, and each of the three cases of a step has a next state. -/
theorem everyStepHasANextState : Obligations.EveryStepHasANextState := by
  refine ⟨fun i s => ⟨_, exec_eq_effect i s⟩, fun s => ?_⟩
  rcases h : s.inputs with _ | ⟨_ | _, rest⟩
  · exact ⟨_, step_of_nil h⟩
  · exact ⟨_, (step_of_txn h).trans (exec_eq_effect _ _)⟩
  · exact ⟨_, step_of_rst h⟩

/-- A transaction leaves the queue as it is. -/
theorem effect_inputs_eq (i : Instr) (s : State) : (effect i s).inputs = s.inputs := by
  have h : effect i s = { effect i s with inputs := s.inputs } := effect_inputs i s s.inputs
  rw [h]

/-- Settles O6, by induction on the words: the queue takes no part in a transaction, so performing the first one
commutes with what is queued behind it. -/
theorem queuedTransactionsRunInOrder : Obligations.QueuedTransactionsRunInOrder := by
  intro ws
  induction ws with
  | nil => exact fun s => ⟨s, rfl, rfl, rfl⟩
  | cons w ws ih =>
    intro s
    obtain ⟨t, hsend, hrun, hq⟩ := ih (effect (decode w) { s with response := none })
    have hinputs := effect_inputs_eq (decode w) { s with response := none }
    refine ⟨t, (hostSendAll_cons w ws s).trans hsend, ?_, hq.trans hinputs⟩
    have hstep : step { s with inputs := (w :: ws).map HostEvent.txn ++ s.inputs }
        = .next { effect (decode w) { s with response := none } with inputs := ws.map HostEvent.txn ++ s.inputs } := by
      rw [step_of_txn (w := w) (rest := ws.map HostEvent.txn ++ s.inputs) rfl, exec_eq_effect, ← effect_inputs]
    rw [hinputs] at hrun
    simp only [List.length_cons, Host.Core.run, Sys2Proof.core, hstep]
    exact hrun

/-- Settles O45: a DIN write hands on the byte of its data alone. -/
theorem dinUpperBitsAreIgnored : Obligations.DinUpperBitsAreIgnored := by
  intro s d d' h
  have hbyte : dinByte d = dinByte d' := h
  rw [exec_eq_effect, exec_eq_effect, effect, effect, hbyte]

end Sys2Proof.Machine
end

section
/-! SUPPORT. No hidden state: what can be read determines the elements, and the elements determine what follows
(R54). -/

namespace Sys2Proof.Machine

/-! ## STATUS shows its fields -/

theorem Mode.code_injective {m n : Mode} (h : m.code.setWidth 2 = n.code.setWidth 2) : m = n := by
  revert h; cases m <;> cases n <;> decide

theorem Phase.code_injective {p q : Phase} (h : p.code.setWidth 2 = q.code.setWidth 2) : p = q := by
  revert h; cases p <;> cases q <;> decide

theorem ErrCode.code_injective {e f : ErrCode} (h : e.code.setWidth 4 = f.code.setWidth 4) : e = f := by
  revert h; cases e <;> cases f <;> decide

/-- Two states with the same STATUS agree in the fields it shows (R36). -/
theorem statusWord_fields {s t : State} (h : statusWord s = statusWord t) :
    s.mode = t.mode ∧ s.phase = t.phase ∧ s.idx = t.idx ∧ s.done = t.done ∧ s.seqErr = t.seqErr ∧ s.err = t.err := by
  have hbits (i n : Nat) : (statusWord s).extractLsb' i n = (statusWord t).extractLsb' i n := by rw [h]
  have hbit (k : Nat) : (statusWord s).getLsbD k = (statusWord t).getLsbD k := by rw [h]
  refine ⟨Mode.code_injective ?_, Phase.code_injective ?_, ?_, ?_, ?_, ErrCode.code_injective ?_⟩
  · rw [← statusWord_mode, ← statusWord_mode, hbits]
  · rw [← statusWord_phase, ← statusWord_phase, hbits]
  · rw [← statusWord_idx, ← statusWord_idx, hbits]
  · exact (getLsbD_statusWord s 8).symm.trans ((hbit 8).trans (getLsbD_statusWord t 8))
  · exact (getLsbD_statusWord s 9).symm.trans ((hbit 9).trans (getLsbD_statusWord t 9))
  · rw [← statusWord_err, ← statusWord_err, hbits]

/-! ## The port takes no part -/

/-- States with the same elements differ in the two fields of the port alone. -/
theorem State.SameElements.eq {s t : State} (h : s.SameElements t) :
    t = { s with response := t.response, inputs := t.inputs } := by
  obtain ⟨hmode, hphase, hidx, hdone, hseq, herr, htype, hlen, hcrc, hrx, hcnt, hout⟩ := h
  simp only [hmode, hphase, hidx, hdone, hseq, herr, htype, hlen, hcrc, hrx, hcnt, hout]

/-- What a read before returned has no part in a read. -/
theorem effect_response_of_isRead {i : Instr} (h : isRead i = true) (s : State) (r : Option Word) :
    effect i { s with response := r } = effect i s := by
  cases i <;> cases h <;> rfl

/-- A DIN byte neither looks at what a read returned nor changes it. -/
theorem dinEffect_withResponse (b : Byte) (s : State) (r : Option Word) :
    dinEffect b { s with response := r } = { dinEffect b s with response := r } := by
  unfold dinEffect
  dsimp only
  split
  · rfl
  · rfl
  · rcases encByte_cases b s with ⟨h, e⟩ | ⟨h, e⟩ <;> rw [e]
    · exact if_pos h
    · exact if_neg h
  · split
    · simp only [decHeaderByte, headerCheck, cover]
      split_ifs <;> rfl
    · rcases decPayloadByte_cases b s with ⟨h, e⟩ | ⟨h, e⟩ <;> rw [e]
      · exact if_pos h
      · exact if_neg h
    · rcases decTrailerByte_cases b s with ⟨h, e⟩ | ⟨h, hc, e⟩ | ⟨h, hc, e⟩ <;> rw [e]
      · exact if_neg h
      · exact (if_pos h).trans (if_pos hc)
      · exact (if_pos h).trans (if_neg hc)

/-- A transaction that is no read neither looks at what a read returned nor changes it. -/
theorem effect_response_of_not_isRead {i : Instr} (h : isRead i = false) (s : State) (r : Option Word) :
    effect i { s with response := r } = { effect i s with response := r } := by
  cases i <;> cases h
  case cmdEncStart =>
    simp only [effect, encStartEffect]
    split_ifs <;> rfl
  case wrDin data => exact dinEffect_withResponse (dinByte data) s r
  case cmdCrcEnd | cmdDecEnd =>
    simp only [effect]
    split <;> rfl
  case wrType | wrLen =>
    simp only [effect, writeUnlessOwned]
    split <;> rfl
  all_goals rfl

/-- From states with the same elements a transaction leads to states with the same elements (R54). -/
theorem effect_sameElements {s t : State} (h : s.SameElements t) (i : Instr) :
    (effect i s).SameElements (effect i t) ∧ (isRead i = true → (effect i s).response = (effect i t).response) := by
  have heq : effect i t = { effect i { s with response := t.response } with inputs := t.inputs } := by
    rw [← effect_inputs, ← h.eq]
  rw [heq]
  cases hr : isRead i
  · rw [effect_response_of_not_isRead hr s t.response]
    exact ⟨⟨rfl, rfl, rfl, rfl, rfl, rfl, rfl, rfl, rfl, rfl, rfl, rfl⟩, nofun⟩
  · rw [effect_response_of_isRead hr s t.response]
    exact ⟨⟨rfl, rfl, rfl, rfl, rfl, rfl, rfl, rfl, rfl, rfl, rfl, rfl⟩, fun _ => rfl⟩

/-- Settles O20: STATUS shows the six fields that have no register of their own, and the port takes no part in a
transaction. -/
theorem readableStateDeterminesBehaviour : Obligations.ReadableStateDeterminesBehaviour := by
  refine ⟨fun s t hst htype hlen hcrc hrx hcnt hout => ?same, fun i s t s' t' h hs ht => ?next⟩
  case same =>
    obtain ⟨hmode, hphase, hidx, hdone, hseq, herr⟩ := statusWord_fields hst
    exact ⟨hmode, hphase, hidx, hdone, hseq, herr, htype, hlen, hcrc, hrx, hcnt, hout⟩
  case next =>
    obtain rfl := exec_next_iff.1 hs
    obtain rfl := exec_next_iff.1 ht
    exact effect_sameElements h i

end Sys2Proof.Machine
end

section
/-! SUPPORT. Byte order and byte classes (R9, R130). -/

namespace Sys2Proof.Machine

/-- A byte field of a word, as arithmetic. -/
theorem toNat_byte (v : Word) (n : Nat) : (v.extractLsb' n 8).toNat = v.toNat / 2 ^ n % 2 ^ 8 := by
  rw [BitVec.extractLsb'_toNat, Nat.shiftRight_eq_div_pow]

/-- A word is the sum of its bytes by powers of 256 (R9). -/
theorem toNat_eq_sum_bytes (v : Word) :
    v.toNat = (v.extractLsb' 24 8).toNat * 2 ^ 24 + (v.extractLsb' 16 8).toNat * 2 ^ 16
      + (v.extractLsb' 8 8).toNat * 2 ^ 8 + (v.extractLsb' 0 8).toNat := by
  have hv := v.isLt
  simp only [toNat_byte]
  omega

/-- A word comes out of its bytes again (R9). -/
@[simp] theorem fromBE32_be32 (v : Word) : fromBE32 (be32 v) = v := by
  apply BitVec.eq_of_toNat_eq
  rw [be32, toNat_fromBE32]
  have hsum := toNat_eq_sum_bytes v
  omega

/-- Settles O13: both directions, and the two sums. -/
theorem bigEndianWordsRoundTrip : Obligations.BigEndianWordsRoundTrip := by
  refine ⟨fun v => ⟨fromBE32_be32 v, length_be32 v, toNat_eq_sum_bytes v⟩,
    fun b0 b1 b2 b3 => ⟨be32_fromBE32 b0 b1 b2 b3, ?_⟩⟩
  rw [toNat_fromBE32]
  omega

/-- Settles O14: the byte classes are comparisons with the ends of their ranges, which do not overlap. -/
theorem byteClassesAreAsciiRanges : Obligations.ByteClassesAreAsciiRanges := by
  intro b
  have hupper : upper b = true ↔ 0x41 ≤ b.toNat ∧ b.toNat ≤ 0x5A := by simp [upper, BitVec.le_def]
  have hlower : lower b = true ↔ 0x61 ≤ b.toNat ∧ b.toNat ≤ 0x7A := by simp [lower, BitVec.le_def]
  refine ⟨hupper, hlower, by simp [alpha], ?_⟩
  rw [hupper, hlower]
  omega

end Sys2Proof.Machine
end

section
/-! SUPPORT. H_CHECKSUM: what the procedure reads and leaves (R169), and that it is incremental (R170). -/

namespace Sys2Proof.Machine

/-- A read of slot 6 tells the host CRC_OUT (R168). -/
theorem hostRead_crcOut (s : State) :
    hostRead 6 s = some (crcOutWord s, { s with response := some (crcOutWord s) }) :=
  hostRead_eq rfl

/-- Bytes in CRC mode and a read of CRC_OUT: the checksum register goes on over them (R165, R168). -/
theorem hostSendAll_dinWord_read_of_crc (bytes : List Byte) {s : State} (hm : s.mode = .crc) :
    (hostSendAll (bytes.map dinWord) s).bind (hostRead 6)
      = some (crcOutOf (crcFold s.crcState bytes),
          { s with crcState := crcFold s.crcState bytes, cnt := s.cnt + BitVec.ofNat 32 bytes.length,
                   response := some (crcOutOf (crcFold s.crcState bytes)) }) := by
  obtain ⟨r, hr⟩ := hostSendAll_dinWord_of_crc bytes hm
  rw [hr, Option.bind_some, hostRead_crcOut]
  rfl

/-- H_CHECKSUM reads the checksum and leaves a CRC operation over the bytes in progress (R169). -/
theorem hChecksum_eq (bytes : List Byte) (s : State) :
    hChecksum bytes s = some (checksum bytes,
      { startOperation .crc .hdr s with
          crcState := crcFold crcInitial bytes, cnt := BitVec.ofNat 32 bytes.length,
          response := some (checksum bytes) }) := by
  have hinit : decode (encode .cmdCrcInit) = .cmdCrcInit := decodeEncodeAgree _ rfl
  rw [hChecksum, checksumTransactions, hostSendAll_cons, hinit, effect, hostSendAll_dinWord_read_of_crc bytes rfl,
    startOperation_crcState, startOperation_cnt, BitVec.zero_add]
  rfl

/-- Settles O25: the state H_CHECKSUM leaves has all the fields named. -/
theorem checksumProcedureReadsChecksum : Obligations.ChecksumProcedureReadsChecksum :=
  fun bytes s => ⟨_, hChecksum_eq bytes s, rfl, rfl, rfl, rfl, rfl⟩

/-- The checksum of a sequence goes on from the register after its first piece (R170). -/
theorem checksum_append (a b : List Byte) : checksum (a ++ b) = crcOutOf (crcFold (crcFold crcInitial a) b) := by
  rw [checksum, crcFold_append]

/-- Settles O26: the register after H_CHECKSUM of the first piece goes on over the second. -/
theorem checksumIsIncremental : Obligations.ChecksumIsIncremental := by
  intro a b s
  rw [checksum_append]
  exact ⟨_, _, hChecksum_eq a s, hostSendAll_dinWord_read_of_crc b rfl⟩

end Sys2Proof.Machine
end

section
/-! SUPPORT. H_ENCODE: what a run of payload bytes and a whole encode leave (R196, R197), and an encode cut short
(R198). -/

namespace Sys2Proof.Machine

/-! ## Payload bytes in ENC mode -/

theorem emit_append (a b : List Byte) (s : State) : emit (a ++ b) s = emit b (emit a s) := by
  rw [emit, emit, emit, List.append_assoc]

/-- Payload bytes before the last one are emitted, covered and counted (R194). -/
theorem dinRun_encode_bytes (bytes : List Byte) {s : State} (hm : s.mode = .enc)
    (hn : s.cnt.toNat + bytes.length < s.len.toNat) :
    dinRun bytes s = { cover bytes (emit bytes s) with cnt := s.cnt + BitVec.ofNat 32 bytes.length } := by
  induction bytes using List.reverseRecOn with
  | nil => simp [cover, emit]
  | append_singleton bytes b ih =>
    rw [List.length_append, List.length_singleton] at hn ⊢
    have hlen := s.len.isLt
    have hne : s.cnt + BitVec.ofNat 32 bytes.length + 1#32 ≠ s.len := by
      rw [add_ofNat_succ, ne_eq, BitVec.toNat_eq, BitVec.toNat_add, BitVec.toNat_ofNat]
      omega
    rw [dinRun_concat, ih (by omega), ← add_ofNat_succ, cover_append, emit_append]
    exact dinEffect_of_enc_not_last (s := { cover bytes (emit bytes s) with cnt := _ }) hm hne b

/-- A whole payload is emitted, covered and counted, and the checksum follows (R194, R195). -/
theorem dinRun_encode_payload (bytes : List Byte) (b : Byte) {s : State} (hm : s.mode = .enc)
    (hn : s.cnt.toNat + (bytes.length + 1) = s.len.toNat) :
    dinRun (bytes ++ [b]) s
      = encFinish { cover (bytes ++ [b]) (emit (bytes ++ [b]) s) with cnt := s.len } := by
  have hcnt : s.cnt + BitVec.ofNat 32 bytes.length + 1#32 = s.len := by
    have hlen := s.len.isLt
    rw [add_ofNat_succ, BitVec.toNat_eq, BitVec.toNat_add, BitVec.toNat_ofNat]
    omega
  rw [dinRun_concat, dinRun_encode_bytes _ hm (by omega), cover_append, ← hcnt, emit_append]
  exact dinEffect_of_enc_last (s := { cover bytes (emit bytes s) with cnt := _ }) hm hcnt b

/-! ## Whole encodes -/

theorem toNat_lengthWord {p : List Byte} (hp : p.length < 2 ^ 32) : (lengthWord p).toNat = p.length :=
  Nat.mod_eq_of_lt hp

theorem lengthWord_ne_zero {p : List Byte} (hp : p.length < 2 ^ 32) (hne : 0 < p.length) : lengthWord p ≠ 0#32 := by
  intro h
  have := toNat_lengthWord hp
  rw [h] at this
  exact absurd this hne.ne

/-- The state an encode has reached after its header: TYPE and LEN as written, the header emitted (R193, R196). -/
def encodeHeader (t : Word) (p : List Byte) (s : State) : State :=
  encHeader { s with typeCode := t, len := lengthWord p, response := none }

/-- The state a whole encode leaves: its payload emitted, covered and counted, and the checksum inserted (R195). -/
def encodeEnd (t : Word) (p : List Byte) (s : State) : State :=
  encFinish { cover p (emit p (encodeHeader t p s)) with cnt := lengthWord p }

/-- H_ENCODE's transactions up to `k` payload bytes, fewer than the payload has, leave the encode that far (R194). -/
theorem hostSendAll_encode_take {t : Word} {p : List Byte} {k : Nat} {s : State} (ha : tcAlpha t = true)
    (hp : p.length < 2 ^ 32) (hk : k < p.length) (hm : s.mode = .idle ∨ s.mode = .crc) :
    hostSendAll ((encodeTransactions t p).take (3 + k)) s
      = some { cover (p.take k) (emit (p.take k) (encodeHeader t p s)) with cnt := BitVec.ofNat 32 k } := by
  have htake : (encodeTransactions t p).take (3 + k)
      = encode (.wrType t) :: encode (.wrLen (lengthWord p)) :: encode .cmdEncStart :: (p.take k).map dinWord := by
    rw [encodeTransactions, Nat.add_comm 3 k, List.map_take]
    rfl
  have hlen : (p.take k).length = k := List.length_take_of_le hk.le
  have hrun := dinRun_encode_bytes (p.take k) (s := encodeHeader t p s) rfl (by
    show 0 + (p.take k).length < (lengthWord p).toNat
    rw [toNat_lengthWord hp, hlen, Nat.zero_add]
    exact hk)
  rw [htake, hostSendAll_encodeHeader ha (lengthWord_ne_zero hp (by omega)) _ hm, ← List.append_nil (List.map _ _),
    hostSendAll_dinWord _ _ rfl]
  rw [hlen, encodeHeader, encHeader_cnt, BitVec.zero_add] at hrun
  exact congrArg some hrun

/-- H_ENCODE's transactions leave a finished encode (R194, R195). -/
theorem hostSendAll_encode {t : Word} {p : List Byte} {s : State} (ha : tcAlpha t = true) (hp : p.length < 2 ^ 32)
    (hm : s.mode = .idle ∨ s.mode = .crc) :
    hostSendAll (encodeTransactions t p) s = some (encodeEnd t p s) := by
  rcases p.eq_nil_or_concat' with rfl | ⟨q, b, rfl⟩
  · rw [encodeTransactions, List.map_nil, hostSendAll_encodeStart _ _ _ hm,
      effect_cmdEncStart_of_len_eq_zero (s := { s with typeCode := t, len := lengthWord [], response := none }) ha rfl,
      encodeEnd, emit, List.append_nil]
    rfl
  · have hrun := dinRun_encode_payload q b (s := encodeHeader t (q ++ [b]) s) rfl (by
      show 0 + (q.length + 1) = (lengthWord (q ++ [b])).toNat
      rw [toNat_lengthWord hp, Nat.zero_add, List.length_append, List.length_singleton])
    rw [encodeTransactions, hostSendAll_encodeHeader ha (lengthWord_ne_zero hp (by simp)) _ hm,
      ← List.append_nil (List.map _ _), hostSendAll_dinWord _ _ rfl]
    exact congrArg some hrun

/-- A whole encode has appended exactly the frame to OUT (R197). -/
theorem encodeEnd_out (t : Word) (p : List Byte) (s : State) : (encodeEnd t p s).out = s.out ++ frame t p := by
  rw [frame, checksum_append, frameBody, ← List.append_assoc, ← List.append_assoc]
  rfl

/-- H_ENCODE reports the frame (R196, R197). -/
theorem hEncode_eq {t : Word} {p : List Byte} {s : State} (ha : tcAlpha t = true) (hp : p.length < 2 ^ 32)
    (hm : s.mode = .idle ∨ s.mode = .crc) : hEncode t p s = some (frame t p, encodeEnd t p s) := by
  rw [hEncode, hostSendAll_encode ha hp hm, Option.map_some, encodeEnd_out, List.drop_left]

/-- Settles O30: the fields of the state H_ENCODE leaves. -/
theorem encodeEmitsExactlyTheFrame : Obligations.EncodeEmitsExactlyTheFrame := by
  intro t p s ha hp hm
  exact ⟨_, hEncode_eq ha hp hm, encodeEnd_out t p s, rfl, rfl, rfl, rfl, rfl, toNat_lengthWord hp, rfl,
    (checksum_append _ _).symm⟩

/-- The first bytes of a frame: its header and that much of its payload (R78). -/
theorem frame_take (t : Word) {p : List Byte} {k : Nat} (hk : k ≤ p.length) :
    (frame t p).take (8 + k) = be32 (lengthWord p) ++ typeBytes t ++ p.take k := by
  have h8 : (be32 (lengthWord p) ++ typeBytes t).length = 8 := by simp
  have hle : (8 : Nat) ≤ 8 + k := Nat.le_add_right 8 k
  rw [frame, frameBody, List.append_assoc _ p, List.take_append, h8, List.take_of_length_le (h8.trans_le hle),
    Nat.add_sub_cancel_left, List.take_append_of_le_length hk]

/-- Settles O31: the encode after `k` bytes, and the three transactions that abandon it without touching OUT or DONE. -/
theorem abandonedEncodeLeavesFramePrefix : Obligations.AbandonedEncodeLeavesFramePrefix := by
  intro t p k s ha hp hk hm
  refine ⟨_, hostSendAll_encode_take ha hp hk hm, ?out, rfl, rfl, Nat.mod_eq_of_lt (hk.trans hp),
    fun i v hi h => ?abandon⟩
  case out =>
    rw [frame_take t hk.le, ← List.append_assoc]
    rfl
  case abandon =>
    obtain rfl := exec_next_iff.1 h
    rcases hi with rfl | rfl | rfl <;> exact ⟨rfl, rfl⟩

end Sys2Proof.Machine
end

section
/-! SUPPORT. The header of a decode, from any state (R73, R221, R222). -/

namespace Sys2Proof.Machine

/-- Settles O34: the run of the eight bytes is HEADER_CHECK of the assembled registers, by its three outcomes. -/
theorem headerIsAssembledBigEndian : Obligations.HeaderIsAssembledBigEndian := by
  intro l0 l1 l2 l3 t0 t1 t2 t3 s
  rw [hostSendAll_decode_bytes, dinRun_decode_header]
  rw [← tcAlpha_fromBE32]
  refine ⟨_, rfl, ?_⟩
  rcases headerCheck_cases { cover [t0, t1, t2, t3] (effect .cmdDecStart { s with response := none }) with
      len := fromBE32 [l0, l1, l2, l3], typeCode := fromBE32 [t0, t1, t2, t3], idx := 7#3 } with
    ⟨ha, e⟩ | ⟨ha, hl, e⟩ | ⟨ha, hl, e⟩ <;> dsimp only at ha <;> rw [e, ha]
  · exact ⟨rfl, rfl, rfl, rfl, rfl, rfl, rfl, rfl, rfl, rfl, rfl⟩
  · exact ⟨rfl, rfl, rfl, rfl, rfl, rfl, rfl, rfl, rfl, by simpa using hl⟩
  · exact ⟨rfl, rfl, rfl, rfl, rfl, rfl, rfl, rfl, rfl, by simpa using hl⟩

end Sys2Proof.Machine
end

section
/-! SUPPORT. A decode from DEC_START: what the header, the payload and the trailer of an input leave, and that DIN bytes
never start another operation (R221 to R224). -/

namespace Sys2Proof.Machine

/-! ## MODE over a run of bytes -/

/-- A DIN byte keeps MODE or ends the operation. -/
theorem DinCase.mode_eq_or_idle {b : Byte} {s t : State} (h : DinCase b s t) : t.mode = s.mode ∨ t.mode = .idle := by
  cases h with
  | crc _ e => exact .inl (by rw [e]; rfl)
  | _ => simp [*]

/-- DIN bytes keep MODE or end the operation. -/
theorem dinRun_mode_eq_or_idle (bytes : List Byte) (s : State) :
    (dinRun bytes s).mode = s.mode ∨ (dinRun bytes s).mode = .idle := by
  induction bytes generalizing s with
  | nil => exact .inl rfl
  | cons b bytes ih =>
    rw [dinRun_cons]
    rcases ih (dinEffect b s) with h | h
    · rw [h]
      exact (dinCase b s).mode_eq_or_idle
    · exact .inr h

/-- A decode in progress after bytes was in progress before them. -/
theorem mode_dec_of_dinRun {bytes : List Byte} {s : State} (h : (dinRun bytes s).mode = .dec) : s.mode = .dec := by
  rcases dinRun_mode_eq_or_idle bytes s with h' | h'
  · exact h'.symm.trans h
  · exact absurd (h'.symm.trans h) (by decide)

/-- Outside ENC mode DIN bytes leave OUT as it is (R51). -/
theorem dinRun_out (bytes : List Byte) {s : State} (h : s.mode ≠ .enc) : (dinRun bytes s).out = s.out := by
  induction bytes generalizing s with
  | nil => rfl
  | cons b bytes ih =>
    have hcase := dinCase b s
    rw [dinRun_cons, ih, hcase.out_eq h]
    rcases hcase.mode_eq_or_idle with h' | h' <;> rw [h']
    · exact h
    · decide

/-- What a read returned before takes no part in a run of bytes. -/
theorem dinRun_withResponse (bytes : List Byte) (s : State) (r : Option Word) :
    dinRun bytes { s with response := r } = { dinRun bytes s with response := r } := by
  induction bytes generalizing s with
  | nil => rfl
  | cons b bytes ih => rw [dinRun_cons, dinEffect_withResponse, ih, dinRun_cons]

/-! ## The parts of an input, as words -/

/-- Four bytes are the big-endian bytes of a word (R9). -/
theorem be32_fromBE32_of_length {x : List Byte} (h : x.length = 4) : be32 (fromBE32 x) = x := by
  match x, h with
  | [b0, b1, b2, b3], _ => exact be32_fromBE32 b0 b1 b2 b3

section
variable (l t : Word) (s : State)

/-- After DEC_START and a header, HEADER_CHECK decides over LEN and TYPE (R221, R222). -/
theorem dinRun_header :
    dinRun (be32 l ++ typeBytes t) (effect .cmdDecStart s)
      = headerCheck { cover (typeBytes t) (effect .cmdDecStart s) with len := l, typeCode := t, idx := 7#3 } := by
  have hrun := dinRun_decode_header (l.extractLsb' 24 8) (l.extractLsb' 16 8) (l.extractLsb' 8 8) (l.extractLsb' 0 8)
    (t.extractLsb' 24 8) (t.extractLsb' 16 8) (t.extractLsb' 8 8) (t.extractLsb' 0 8) s
  have hl := fromBE32_be32 l
  have ht := fromBE32_be32 t
  rw [be32] at hl ht
  rw [hl, ht] at hrun
  exact hrun

/-- Up to seven bytes leave the decoder in the header (R221). -/
theorem dinRun_header_mode {bytes : List Byte} (h : bytes.length ≤ 7) :
    (dinRun bytes (effect .cmdDecStart s)).mode = .dec := by
  by_cases h4 : bytes.length ≤ 4
  · rw [dinRun_length_bytes bytes rfl rfl (by show 0 + bytes.length ≤ 4; omega)]
    rfl
  · have hfour : (bytes.take 4).length = 4 := List.length_take_of_le (by omega)
    have hdrop : (bytes.drop 4).length ≤ 3 := by rw [List.length_drop]; omega
    have hidx : (0#3 + BitVec.ofNat 3 4).toNat = 4 := by decide
    have hlength := dinRun_length_bytes (bytes.take 4) (s := effect .cmdDecStart s) rfl rfl
      (Nat.add_le_add_left hfour.le 0)
    rw [← List.take_append_drop 4 bytes, dinRun_append, hlength, hfour,
      dinRun_type_bytes (bytes.drop 4) rfl rfl hidx.ge (by show (0#3 + BitVec.ofNat 3 4).toNat + _ ≤ 7; omega)]
    rfl

variable {l t}

/-- A header that is no type code fails (R222). -/
theorem dinRun_header_invalid (ha : tcAlpha t = false) :
    dinRun (be32 l ++ typeBytes t) (effect .cmdDecStart s)
      = fail .invalidTypeCode
          { cover (typeBytes t) (effect .cmdDecStart s) with len := l, typeCode := t, idx := 0#3 } := by
  rw [dinRun_header]
  exact headerCheck_of_not_tcAlpha ha

/-- The registers of a decode at the start of the payload (R222). -/
def payloadStart (l t : Word) (s : State) : State :=
  { cover (typeBytes t) (effect .cmdDecStart s) with len := l, typeCode := t, idx := 0#3, phase := .pay }

theorem dinRun_header_payload (ha : tcAlpha t = true) (hl : 0 < l.toNat) :
    dinRun (be32 l ++ typeBytes t) (effect .cmdDecStart s) = payloadStart l t s := by
  have hl0 : l ≠ 0#32 := by
    intro h
    rw [h] at hl
    exact absurd hl (Nat.lt_irrefl 0)
  exact (dinRun_header l t s).trans (headerCheck_of_len_ne_zero ha hl0)

/-- The header of a frame without payload leads to the trailer (R222). -/
theorem dinRun_header_empty (ha : tcAlpha t = true) (hl : l = 0#32) :
    dinRun (be32 l ++ typeBytes t) (effect .cmdDecStart s) = { payloadStart l t s with phase := .trl } :=
  (dinRun_header l t s).trans (headerCheck_of_len_eq_zero ha hl)

/-- The registers of a decode at the start of the trailer (R222, R223). -/
def trailerStart (l t : Word) (p : List Byte) (s : State) : State :=
  { cover (typeBytes t ++ p) (effect .cmdDecStart s) with
    len := l, typeCode := t, idx := 0#3, cnt := l, phase := .trl }

/-- After a header and its payload the decoder is in the trailer, its checksum over type and payload (R222, R223). -/
theorem dinRun_body {p : List Byte} (ha : tcAlpha t = true) (hl : p.length = l.toNat) :
    dinRun (be32 l ++ typeBytes t ++ p) (effect .cmdDecStart s)
      = trailerStart l t p s := by
  rw [dinRun_append]
  rcases p.eq_nil_or_concat' with rfl | ⟨q, b, rfl⟩
  · have hl0 : l = 0#32 := BitVec.eq_of_toNat_eq hl.symm
    rw [dinRun_nil, dinRun_header_empty s ha hl0, hl0, trailerStart, List.append_nil]
    rfl
  · rw [List.length_append, List.length_singleton] at hl
    have hcount : (payloadStart l t s).cnt.toNat + (q.length + 1) = (payloadStart l t s).len.toNat :=
      (Nat.zero_add _).trans hl
    rw [dinRun_header_payload s ha (by omega), dinRun_payload q b rfl rfl hcount, trailerStart,
      cover_append (typeBytes t)]
    rfl

/-- Fewer bytes than a frame has, behind a good header, leave the decoder decoding (R222 to R224). -/
theorem dinRun_cut_mode {rest : List Byte} (ha : tcAlpha t = true) (h : rest.length < l.toNat + 4) :
    (dinRun (be32 l ++ typeBytes t ++ rest) (effect .cmdDecStart s)).mode = .dec := by
  by_cases hl : rest.length < l.toNat
  · have hcount : (payloadStart l t s).cnt.toNat + rest.length < (payloadStart l t s).len.toNat := by
      show 0 + rest.length < l.toNat
      omega
    rw [dinRun_append, dinRun_header_payload s ha (by omega), dinRun_payload_bytes rest rfl rfl hcount]
    rfl
  · have htake : (rest.take l.toNat).length = l.toNat := List.length_take_of_le (by omega)
    have htrailer : (trailerStart l t (rest.take l.toNat) s).idx.toNat + (rest.drop l.toNat).length ≤ 3 := by
      show 0 + _ ≤ 3
      rw [List.length_drop]
      omega
    rw [← List.take_append_drop l.toNat rest, ← List.append_assoc, dinRun_append, dinRun_body s ha htake,
      dinRun_trailer_bytes _ rfl rfl htrailer]
    rfl

end

/-- A whole trailer that is not the checksum fails (R224). -/
theorem dinRun_trailer_mismatch (c0 c1 c2 c3 : Byte) {s : State} (hm : s.mode = .dec) (hp : s.phase = .trl)
    (hi : s.idx = 0#3) (hr : s.crcRx = 0#32) (hc : crcOutWord s ≠ fromBE32 [c0, c1, c2, c3]) :
    dinRun [c0, c1, c2, c3] s
      = fail .checksumMismatch { s with crcRx := fromBE32 [c0, c1, c2, c3], idx := 0#3 } := by
  have hsplit : [c0, c1, c2, c3] = [c0, c1, c2] ++ [c3] := rfl
  have hidx : s.idx + 3#3 = 3#3 := by rw [hi]; decide
  rw [← foldl_shiftInByte, ← hr, hsplit, List.foldl_concat] at hc ⊢
  rw [dinRun_concat, dinRun_trailer_bytes _ hm hp (by simp [hi])]
  exact dinEffect_trailer_mismatch hm hp hidx hc

/-- The verdict over a whole frame: its trailer against the checksum of type and payload (R224). -/
theorem dinRun_frame {l t c : Word} {p : List Byte} (s : State) (ha : tcAlpha t = true) (hl : p.length = l.toNat) :
    dinRun (be32 l ++ typeBytes t ++ p ++ be32 c) (effect .cmdDecStart s)
      = if c = checksum (typeBytes t ++ p) then complete { trailerStart l t p s with crcRx := c }
        else fail .checksumMismatch { trailerStart l t p s with crcRx := c } := by
  have hc := fromBE32_be32 c
  rw [be32] at hc
  rw [dinRun_append, dinRun_body s ha hl, be32]
  split_ifs with h
  · rw [dinRun_trailer_accepted _ _ _ _ rfl rfl rfl rfl (by rw [hc, h]; rfl), hc]
    rfl
  · rw [dinRun_trailer_mismatch _ _ _ _ rfl rfl rfl rfl (by rw [hc]; exact fun h' => h h'.symm), hc]
    rfl

end Sys2Proof.Machine
end

section
/-! SUPPORT. H_PARSE in terms of the run of bytes it writes (R227). -/

namespace Sys2Proof.Machine

/-! ## What the host sees in STATUS -/

theorem statusIsDec_statusWord (s : State) : statusIsDec (statusWord s) = decide (s.mode = .dec) := by
  rw [statusIsDec, statusWord_mode]
  cases s.mode <;> decide

theorem statusDone_statusWord (s : State) : statusDone (statusWord s) = s.done := getLsbD_statusWord s 8

theorem statusErr_statusWord (s : State) : statusErr (statusWord s) = s.err := by
  rw [statusErr, statusWord_err]
  cases s.err <;> rfl

/-- A read of slot 1 tells the host STATUS (R262). -/
theorem hostRead_status (s : State) :
    hostRead 1 s = some (statusWord s, { s with response := some (statusWord s) }) :=
  hostRead_eq rfl

/-- A read of slot 2 tells the host TYPE (R139). -/
theorem hostRead_type (s : State) : hostRead 2 s = some (s.typeCode, { s with response := some s.typeCode }) :=
  hostRead_eq rfl

/-- A read of slot 3 tells the host LEN (R192). -/
theorem hostRead_len (s : State) : hostRead 3 s = some (s.len, { s with response := some s.len }) :=
  hostRead_eq rfl

/-- A read of slot 7 tells the host CRC_RX (R226). -/
theorem hostRead_crcRx (s : State) : hostRead 7 s = some (s.crcRx, { s with response := some s.crcRx }) :=
  hostRead_eq rfl

/-! ## The loop -/

/-- While STATUS.MODE is DEC the loop writes the next byte (R227). -/
theorem feedWhileDec_cons_of_dec (b : Byte) (bytes : List Byte) {s : State} (hm : s.mode = .dec) :
    feedWhileDec (b :: bytes) s
      = (feedWhileDec bytes { dinEffect b s with response := none }).map fun x => (x.1 + 1, x.2) := by
  have hdec : statusIsDec (statusWord s) = true := by rw [statusIsDec_statusWord, hm]; rfl
  simp only [feedWhileDec, hostRead_status, Option.bind_some, hdec, if_true, hostSend_eq, effect_dinWord,
    dinEffect_withResponse]

/-- Once STATUS.MODE is not DEC the loop writes nothing more (R227). -/
theorem feedWhileDec_of_not_dec (bytes : List Byte) {s : State} (hm : s.mode ≠ .dec) :
    ∃ r, feedWhileDec bytes s = some (0, { s with response := r }) := by
  cases bytes with
  | nil => exact ⟨s.response, rfl⟩
  | cons b bytes =>
    refine ⟨some (statusWord s), ?_⟩
    simp only [feedWhileDec, hostRead_status, Option.bind_some, statusIsDec_statusWord, hm, decide_false]
    rfl

/-- Bytes after which the decoder is still decoding are written, and the loop goes on with the rest (R227). -/
theorem feedWhileDec_append {a : List Byte} (rest : List Byte) {s : State} (h : (dinRun a s).mode = .dec) :
    ∃ r, feedWhileDec (a ++ rest) s
      = (feedWhileDec rest { dinRun a s with response := r }).map fun x => (x.1 + a.length, x.2) := by
  induction a generalizing s with
  | nil => exact ⟨s.response, by simp⟩
  | cons b a ih =>
    have hrun := dinRun_withResponse a (dinEffect b s) none
    obtain ⟨r, hr⟩ := ih (s := { dinEffect b s with response := none }) (by rw [hrun]; exact h)
    refine ⟨r, ?_⟩
    rw [List.cons_append, feedWhileDec_cons_of_dec _ _ (mode_dec_of_dinRun h), hr, hrun, Option.map_map]
    exact congrArg (Option.map · _) (funext fun x => by simp [Nat.add_assoc])

/-! ## The procedure -/

/-- H_PARSE of an input from a state reports a result after writing so many bytes, and leaves the block in IDLE with OUT
as it was (R227). -/
def Parses (input : List Byte) (s : State) (result : Except ErrCode (Chunk × Nat)) (written : Nat) : Prop :=
  ∃ r, hParse input s = some r ∧ r.result = result ∧ r.written = written ∧ r.final.out = s.out ∧ r.final.mode = .idle

/-- The state in which H_PARSE begins to write bytes. -/
def decodeStart (s : State) : State := effect .cmdDecStart { s with response := none }

theorem dinRun_decodeStart_out (bytes : List Byte) (s : State) : (dinRun bytes (decodeStart s)).out = s.out :=
  dinRun_out bytes (by decide : Mode.dec ≠ .enc)

/-- The result H_PARSE reads from a block in IDLE (R227). -/
def idleResult (input : List Byte) (u : State) : Except ErrCode (Chunk × Nat) :=
  if u.done then
    .ok ({ length := u.len, typeBytes := typeBytes u.typeCode, payload := slice input 8 (8 + u.len.toNat),
           checksum := u.crcRx }, 12 + u.len.toNat)
  else .error u.err

/-- H_PARSE after its loop, when the end of input leaves the block in IDLE (R227). -/
theorem parses_of_feed {input : List Byte} {s u v : State} {n : Nat} {r : Option Word}
    (hfeed : feedWhileDec input (decodeStart s) = some (n, u)) (hend : endOfInput u = some { v with response := r })
    (hm : v.mode = .idle) (ho : v.out = s.out) : Parses input s (idleResult input v) n := by
  have hstart : decode (encode .cmdDecStart) = .cmdDecStart := decodeEncodeAgree _ rfl
  have hstatus : statusWord { v with response := r } = statusWord v := rfl
  unfold Parses idleResult hParse
  rw [hostSend_eq, hstart, Option.bind_some, ← decodeStart, hfeed, Option.bind_some]
  dsimp only
  rw [hend, Option.bind_some, hostRead_status, Option.bind_some]
  simp only [hstatus, statusDone_statusWord, statusErr_statusWord, hostRead_len, hostRead_type, hostRead_crcRx,
    Option.bind_some, Option.map_some]
  split_ifs
  · exact ⟨_, rfl, rfl, rfl, ho, hm⟩
  · exact ⟨_, rfl, rfl, rfl, ho, hm⟩

/-- An input that ends while the decoder is decoding is truncated; all of it is written (R225, R227). -/
theorem parses_of_dec {a : List Byte} {s : State} (h : (dinRun a (decodeStart s)).mode = .dec) :
    Parses a s (.error .truncatedInput) a.length := by
  have hdecEnd : decode (encode .cmdDecEnd) = .cmdDecEnd := decodeEncodeAgree _ rfl
  obtain ⟨r, hfeed⟩ := feedWhileDec_append [] h
  rw [List.append_nil, feedWhileDec, Option.map_some, Nat.zero_add] at hfeed
  refine parses_of_feed (v := fail .truncatedInput (dinRun a (decodeStart s))) (r := none) hfeed ?_ rfl
    (dinRun_decodeStart_out a s)
  simp only [endOfInput, hostRead_status, Option.bind_some, statusIsDec_statusWord, h, decide_true, if_true,
    hostSend_eq, hdecEnd, effect]
  rfl

/-- An input whose byte `b` ends the decode is read up to that byte (R227). -/
theorem parses_of_idle {a : List Byte} {b : Byte} (rest : List Byte) {s : State}
    (h : (dinRun a (decodeStart s)).mode = .dec) (hidle : (dinRun (a ++ [b]) (decodeStart s)).mode = .idle) :
    Parses (a ++ b :: rest) s (idleResult (a ++ b :: rest) (dinRun (a ++ [b]) (decodeStart s))) (a.length + 1) := by
  have hne : (dinRun (a ++ [b]) (decodeStart s)).mode ≠ .dec := by rw [hidle]; decide
  obtain ⟨r, hfeed⟩ := feedWhileDec_append (b :: rest) h
  obtain ⟨r', hrest⟩ := feedWhileDec_of_not_dec rest
    (s := { dinRun (a ++ [b]) (decodeStart s) with response := none }) hne
  rw [feedWhileDec_cons_of_dec _ _ (by exact h), dinEffect_withResponse, ← dinRun_concat] at hfeed
  rw [hrest] at hfeed
  have hfeed' : feedWhileDec (a ++ b :: rest) (decodeStart s)
      = some (a.length + 1, { dinRun (a ++ [b]) (decodeStart s) with response := r' }) := by
    rw [hfeed, Option.map_some, Option.map_some, Nat.zero_add, Nat.add_comm]
  refine parses_of_feed (r := some (statusWord (dinRun (a ++ [b]) (decodeStart s)))) hfeed' ?_ hidle
    (dinRun_decodeStart_out _ s)
  simp only [endOfInput, hostRead_status, Option.bind_some, statusIsDec_statusWord, hne, decide_false]
  rfl

end Sys2Proof.Machine
end

section
/-! SUPPORT. The function `parse` (R228): the shapes an input can have, and what it gives for each. -/

namespace Sys2Proof.Machine

/-- The shapes of an input: too short for a header, a header that is no type code, too short for the frame its header
announces, and a frame with any bytes behind it. -/
inductive InputCase (input : List Byte) : Prop
  | short (h : input.length < 8)
  | badType (l t : Word) (rest : List Byte) (a : tcAlpha t = false) (e : input = be32 l ++ typeBytes t ++ rest)
  | cut (l t : Word) (rest : List Byte) (a : tcAlpha t = true) (h : rest.length < l.toNat + 4)
      (e : input = be32 l ++ typeBytes t ++ rest)
  | frame (l t c : Word) (p more : List Byte) (a : tcAlpha t = true) (h : p.length = l.toNat)
      (e : input = be32 l ++ typeBytes t ++ p ++ be32 c ++ more)

/-- The first four bytes of an input, as a word. -/
theorem exists_be32_append {x : List Byte} (h : 4 ≤ x.length) : ∃ v, x = be32 v ++ x.drop 4 := by
  refine ⟨fromBE32 (x.take 4), ?_⟩
  rw [be32_fromBE32_of_length (List.length_take_of_le h), List.take_append_drop]

theorem inputCase (input : List Byte) : InputCase input := by
  by_cases h : input.length < 8
  · exact .short h
  obtain ⟨l, hl⟩ := exists_be32_append (x := input) (by omega)
  obtain ⟨t, ht⟩ := exists_be32_append (x := input.drop 4) (by rw [List.length_drop]; omega)
  have e : input = be32 l ++ typeBytes t ++ (input.drop 4).drop 4 := by
    rw [List.append_assoc, typeBytes, ← ht]
    exact hl
  generalize (input.drop 4).drop 4 = rest at e
  cases ha : tcAlpha t
  · exact .badType l t rest ha e
  by_cases hc : rest.length < l.toNat + 4
  · exact .cut l t rest ha hc e
  · obtain ⟨c, hc⟩ := exists_be32_append (x := rest.drop l.toNat) (by rw [List.length_drop]; omega)
    refine .frame l t c (rest.take l.toNat) ((rest.drop l.toNat).drop 4) ha (List.length_take_of_le (by omega)) ?_
    rw [List.append_assoc _ (be32 c), ← hc, List.append_assoc _ (rest.take _), List.take_append_drop]
    exact e

/-- A slice behind the first part of a sequence is a slice of the rest. -/
theorem slice_append_right (a b : List Byte) (i j : Nat) :
    slice (a ++ b) (a.length + i) (a.length + j) = slice b i j := by
  rw [slice, slice, List.take_length_add_append, List.drop_length_add_append]

/-- An input with a header is parsed by its length and type fields (R228). -/
theorem parse_header (l t : Word) (rest : List Byte) :
    parse (be32 l ++ typeBytes t ++ rest)
      = if tcAlpha t = false then .error .invalidTypeCode
        else if rest.length < l.toNat + 4 then .error .truncatedInput
        else if fromBE32 (slice rest l.toNat (l.toNat + 4)) ≠ checksum (typeBytes t ++ rest.take l.toNat) then
          .error .checksumMismatch
        else .ok { length := l, typeBytes := typeBytes t, payload := rest.take l.toNat,
                   checksum := fromBE32 (slice rest l.toNat (l.toNat + 4)) } := by
  have hlen : (be32 l ++ typeBytes t ++ rest).length = 8 + rest.length := by
    rw [List.length_append, List.length_append, length_be32, length_typeBytes]
  have htype : slice (be32 l ++ typeBytes t ++ rest) 4 8 = typeBytes t := rfl
  have hlength : slice (be32 l ++ typeBytes t ++ rest) 0 4 = be32 l := rfl
  have hrest (i j : Nat) : slice (be32 l ++ typeBytes t ++ rest) (8 + i) (8 + j) = slice rest i j :=
    slice_append_right (be32 l ++ typeBytes t) rest i j
  have hpayload : slice (be32 l ++ typeBytes t ++ rest) 8 (8 + l.toNat) = rest.take l.toNat := hrest 0 l.toNat
  have htrailer : slice (be32 l ++ typeBytes t ++ rest) (8 + l.toNat) (12 + l.toNat)
      = slice rest l.toNat (l.toNat + 4) := by
    rw [show 12 + l.toNat = 8 + (l.toNat + 4) by omega, hrest]
  have halpha : (typeBytes t).all alpha = tcAlpha t := rfl
  have hshort : ¬ 8 + rest.length < 8 := by omega
  have hcut : (8 + rest.length < 12 + l.toNat) = (rest.length < l.toNat + 4) := propext (by omega)
  unfold parse
  simp only [hlen, hshort, if_false, htype, halpha, hlength, fromBE32_be32, hpayload, htrailer, hcut,
    Bool.not_eq_true']

theorem parse_short {input : List Byte} (h : input.length < 8) : parse input = .error .truncatedInput :=
  if_pos h

theorem parse_badType {t : Word} (l : Word) (rest : List Byte) (ha : tcAlpha t = false) :
    parse (be32 l ++ typeBytes t ++ rest) = .error .invalidTypeCode := by
  rw [parse_header, if_pos ha]

theorem parse_cut {l t : Word} {rest : List Byte} (ha : tcAlpha t = true) (h : rest.length < l.toNat + 4) :
    parse (be32 l ++ typeBytes t ++ rest) = .error .truncatedInput := by
  rw [parse_header, if_neg (by simp [ha]), if_pos h]

/-- A frame is accepted when its trailer is the checksum of its type and payload (R228). -/
theorem parse_frame {l t : Word} {p : List Byte} (c : Word) (more : List Byte) (ha : tcAlpha t = true)
    (hl : p.length = l.toNat) :
    parse (be32 l ++ typeBytes t ++ p ++ be32 c ++ more)
      = if c = checksum (typeBytes t ++ p) then
          .ok { length := l, typeBytes := typeBytes t, payload := p, checksum := c }
        else .error .checksumMismatch := by
  have hpayload : (p ++ (be32 c ++ more)).take l.toNat = p := List.take_left' hl
  have htrailer : slice (p ++ (be32 c ++ more)) l.toNat (l.toNat + 4) = be32 c := by
    rw [← hl]
    exact (slice_append_right p (be32 c ++ more) 0 4).trans rfl
  have hlong : ¬ (p ++ (be32 c ++ more)).length < l.toNat + 4 := by
    rw [List.length_append, List.length_append, length_be32]
    omega
  rw [List.append_assoc _ (be32 c), List.append_assoc _ p, parse_header, if_neg (by simp [ha]), if_neg hlong, hpayload,
    htrailer, fromBE32_be32, ite_not]

/-- Exactly the inputs that begin with the frame of a type code are accepted, with that frame's chunk (R228). -/
theorem parse_eq_ok_iff {input : List Byte} {c : Chunk} :
    parse input = .ok c ↔ ∃ t p more, tcAlpha t = true ∧ p.length < 2 ^ 32 ∧ c = chunkOf t p
      ∧ input = frame t p ++ more := by
  constructor
  · intro h
    cases inputCase input with
    | short hs => rw [parse_short hs] at h; cases h
    | badType l t rest ha e => rw [e, parse_badType l rest ha] at h; cases h
    | cut l t rest ha hc e => rw [e, parse_cut ha hc] at h; cases h
    | frame l t d p more ha hl e =>
      have hlw : lengthWord p = l := by rw [lengthWord, hl, BitVec.ofNat_toNat, BitVec.setWidth_eq]
      rw [e, parse_frame d more ha hl] at h
      split_ifs at h with hd
      cases h
      refine ⟨t, p, more, ha, hl ▸ l.isLt, ?_, ?_⟩
      · rw [chunkOf, hlw, hd]
      · rw [e, frame, frameBody, hlw, hd]
  · rintro ⟨t, p, more, ha, hp, rfl, rfl⟩
    rw [frame, frameBody, parse_frame _ more ha (toNat_lengthWord hp).symm, if_pos rfl]
    rfl

end Sys2Proof.Machine
end

section
/-! SUPPORT. H_PARSE run over the block computes `parse` (R228), gives back what H_ENCODE emits (R229), and refuses a
tampered frame (R230). -/

namespace Sys2Proof.Machine

/-! ## H_PARSE over each shape of input -/

theorem parses_short {input : List Byte} (h : input.length < 8) (s : State) :
    Parses input s (.error .truncatedInput) input.length :=
  parses_of_dec (dinRun_header_mode _ (Nat.lt_succ_iff.1 h))

theorem parses_cut {l t : Word} {rest : List Byte} (ha : tcAlpha t = true) (h : rest.length < l.toNat + 4) (s : State) :
    Parses (be32 l ++ typeBytes t ++ rest) s (.error .truncatedInput) (be32 l ++ typeBytes t ++ rest).length :=
  parses_of_dec (dinRun_cut_mode _ ha h)

/-- A header that is no type code ends the decode with its eighth byte (R222). -/
theorem parses_badType {t : Word} (l : Word) (rest : List Byte) (ha : tcAlpha t = false) (s : State) :
    Parses (be32 l ++ typeBytes t ++ rest) s (.error .invalidTypeCode) 8 := by
  have hrun : dinRun (be32 l ++ typeBytes t) (decodeStart s) = _ := dinRun_header_invalid _ ha
  have hidle := congrArg State.mode hrun
  have hparse := parses_of_idle (a := be32 l ++ (typeBytes t).take 3) (b := t.extractLsb' 0 8) rest (s := s)
    (dinRun_header_mode _ (by simp)) hidle
  have hres : idleResult (be32 l ++ typeBytes t ++ rest) (dinRun (be32 l ++ typeBytes t) (decodeStart s))
      = .error .invalidTypeCode := by rw [hrun]; rfl
  rw [← hres]
  exact hparse

section
variable {l t c : Word} {p : List Byte}

/-- What H_PARSE reads after a whole frame: its parts, or the mismatch (R224, R227). -/
theorem idleResult_frame (more : List Byte) (ha : tcAlpha t = true) (hl : p.length = l.toNat) (s : State) :
    idleResult (be32 l ++ typeBytes t ++ p ++ be32 c ++ more)
        (dinRun (be32 l ++ typeBytes t ++ p ++ be32 c) (decodeStart s))
      = if c = checksum (typeBytes t ++ p) then
          .ok ({ length := l, typeBytes := typeBytes t, payload := p, checksum := c }, 12 + l.toNat)
        else .error .checksumMismatch := by
  have hpayload : slice (be32 l ++ typeBytes t ++ p ++ be32 c ++ more) 8 (8 + l.toNat) = p := by
    rw [List.append_assoc _ (be32 c), List.append_assoc _ p]
    exact (slice_append_right (be32 l ++ typeBytes t) _ 0 l.toNat).trans (List.take_left' hl)
  rw [decodeStart, dinRun_frame _ ha hl]
  split_ifs
  · conv_rhs => rw [← hpayload]
    rfl
  · rfl

/-- A whole frame is read to the end of its trailer, whatever follows (R224). -/
theorem parses_frame (c : Word) (more : List Byte) (ha : tcAlpha t = true) (hl : p.length = l.toNat) (s : State) :
    Parses (be32 l ++ typeBytes t ++ p ++ be32 c ++ more) s
      (if c = checksum (typeBytes t ++ p) then
        .ok ({ length := l, typeBytes := typeBytes t, payload := p, checksum := c }, 12 + l.toNat)
      else .error .checksumMismatch) (12 + l.toNat) := by
  have hthree : ((be32 c).take 3).length = 3 := rfl
  have hsplit (x y : List Byte) : x ++ (be32 c).take 3 ++ c.extractLsb' 0 8 :: y = x ++ be32 c ++ y := by
    rw [List.append_assoc, List.append_assoc]
    rfl
  have hdec : (dinRun (be32 l ++ typeBytes t ++ p ++ (be32 c).take 3) (decodeStart s)).mode = .dec := by
    rw [List.append_assoc _ p]
    exact dinRun_cut_mode _ ha (by rw [List.length_append, hthree]; omega)
  have hidle : (dinRun (be32 l ++ typeBytes t ++ p ++ be32 c ++ []) (decodeStart s)).mode = .idle := by
    rw [List.append_nil, decodeStart, dinRun_frame _ ha hl]
    split_ifs <;> rfl
  have hcount : (be32 l ++ typeBytes t ++ p ++ (be32 c).take 3).length + 1 = 12 + l.toNat := by
    rw [List.length_append, List.length_append, List.length_append, length_be32, length_typeBytes, hthree]
    omega
  rw [← hsplit] at hidle
  have hparse := parses_of_idle more hdec hidle
  rwa [hsplit, hsplit, List.append_nil, idleResult_frame more ha hl, hcount] at hparse

end

/-! ## H_PARSE computes `parse` -/

/-- H_PARSE reports what `parse` gives, with the bytes consumed, and writes no more than the input (R228). -/
theorem parses_parse (input : List Byte) (s : State) :
    ∃ n, Parses input s ((parse input).map fun c => (c, 12 + c.length.toNat)) n ∧ n ≤ input.length
      ∧ ∀ c, parse input = .ok c → n = 12 + c.length.toNat := by
  cases inputCase input with
  | short h =>
    rw [parse_short h]
    exact ⟨_, parses_short h s, le_rfl, nofun⟩
  | badType l t rest ha e =>
    rw [e, parse_badType l rest ha]
    exact ⟨8, parses_badType l rest ha s, by simp; omega, nofun⟩
  | cut l t rest ha h e =>
    rw [e, parse_cut ha h]
    exact ⟨_, parses_cut ha h s, le_rfl, nofun⟩
  | frame l t c p more ha hl e =>
    have hparse := parses_frame c more ha hl s
    rw [e, parse_frame c more ha hl]
    refine ⟨12 + l.toNat, ?_, by simp; omega, ?_⟩
    · split_ifs at hparse ⊢ <;> exact hparse
    · split_ifs
      · rintro c ⟨⟩
        rfl
      · exact nofun

/-- Settles O38: both outcomes of `parse` are those H_PARSE reports. -/
theorem decoderComputesParse : Obligations.DecoderComputesParse := by
  intro input s
  obtain ⟨n, ⟨r, hr, hresult, hwritten, hout, -⟩, hn, hok⟩ := parses_parse input s
  refine ⟨r, hr, hout, fun c hc => ?ok, fun e he => ?error⟩
  case ok => exact ⟨by rw [hresult, hc]; rfl, hwritten.trans (hok c hc)⟩
  case error => exact ⟨by rw [hresult, he]; rfl, hwritten.trans_le hn⟩

/-! ## Round trip -/

/-- Settles O39: `parse` accepts exactly the frames of type codes, so an encoded frame parses to its chunk, and an
accepted input that ends with its frame is the frame its chunk encodes to. -/
theorem encodeThenParseRoundTrips : Obligations.EncodeThenParseRoundTrips := by
  refine ⟨fun t p more s ha hp hm => ?parse, fun b c n s r hr hresult hlen => ?encode⟩
  case parse =>
    have hok : parse (frame t p ++ more) = .ok (chunkOf t p) := parse_eq_ok_iff.2 ⟨t, p, more, ha, hp, rfl, rfl⟩
    obtain ⟨n, ⟨r, hr, hresult, -⟩, -⟩ := parses_parse (frame t p ++ more) (encodeEnd t p s)
    refine ⟨_, _, r, hEncode_eq ha hp hm, hr, ?_⟩
    rw [hresult, hok, ← toNat_lengthWord hp]
    rfl
  case encode =>
    obtain ⟨m, ⟨r', hr', hresult', -, -, hidle⟩, -⟩ := parses_parse b s
    obtain rfl : r = r' := Option.some.inj (hr.symm.trans hr')
    rw [hresult] at hresult'
    cases hparse : parse b with
    | error e => rw [hparse] at hresult'; cases hresult'
    | ok d =>
      rw [hparse] at hresult'
      cases hresult'
      obtain ⟨t, p, more, ha, hp, rfl, rfl⟩ := parse_eq_ok_iff.1 hparse
      have hmore : more = [] := by
        have hw : (chunkOf t p).length.toNat = p.length := toNat_lengthWord hp
        have hf : (frame t p).length = 12 + p.length := by simp [frame, frameBody]; omega
        rw [List.length_append] at hlen
        exact List.length_eq_zero_iff.1 (by omega)
      have ht : fromBE32 (chunkOf t p).typeBytes = t := fromBE32_be32 t
      rw [ht, hmore, List.append_nil]
      exact ⟨_, hEncode_eq ha hp (.inl hidle)⟩

/-! ## Tampering -/

/-- A bit step shifts the register, and its low bit selects the polynomial (R161). -/
theorem getLsbD_crcBit (c : Word) (k : Nat) :
    (crcBit c).getLsbD k = (c.getLsbD (k + 1) ^^ (c.getLsbD 0 && crcPolyReflected.getLsbD k)) := by
  unfold crcBit
  split_ifs with h
  · rw [BitVec.getLsbD_xor, BitVec.getLsbD_ushiftRight, Nat.add_comm 1 k, h, Bool.true_and]
  · rw [BitVec.getLsbD_ushiftRight, Nat.add_comm 1 k, Bool.eq_false_iff.2 h, Bool.false_and, Bool.xor_false]

/-- The register's low bit shows in the high bit of the next register, so a bit step loses nothing (R161). -/
theorem crcBit_injective {c d : Word} (h : crcBit c = crcBit d) : c = d := by
  have hbit (k : Nat) : (crcBit c).getLsbD k = (crcBit d).getLsbD k := by rw [h]
  have hhigh : crcPolyReflected.getLsbD 31 = true := by decide
  have hlow : c.getLsbD 0 = d.getLsbD 0 := by
    have := hbit 31
    rwa [getLsbD_crcBit, getLsbD_crcBit, hhigh, c.getLsbD_of_ge 32 le_rfl, d.getLsbD_of_ge 32 le_rfl, Bool.and_true,
      Bool.and_true, Bool.false_xor, Bool.false_xor] at this
  apply BitVec.eq_of_getLsbD_eq
  intro k hk
  cases k with
  | zero => exact hlow
  | succ k =>
    have := hbit k
    rw [getLsbD_crcBit, getLsbD_crcBit, hlow] at this
    exact Bool.xor_left_inj.1 this

theorem crcBits_injective (n : Nat) {c d : Word} (h : crcBits n c = crcBits n d) : c = d := by
  induction n generalizing c d with
  | zero => exact h
  | succ n ih => exact crcBit_injective (ih h)

/-- The register after a byte determines the register before it (R161). -/
theorem crc8_injective_state {c d : Word} {b : Byte} (h : crc8 c b = crc8 d b) : c = d := by
  simpa using crcBits_injective 8 h

/-- The register after a byte determines the byte (R161). -/
theorem crc8_injective_byte {c : Word} {a b : Byte} (h : crc8 c a = crc8 c b) : a = b := by
  have hz : zext32 a = zext32 b := by simpa using crcBits_injective 8 h
  rw [← dinByte_zext32 a, hz, dinByte_zext32]

theorem crcFold_injective (x : List Byte) {c d : Word} (h : crcFold c x = crcFold d x) : c = d := by
  induction x generalizing c d with
  | nil => exact h
  | cons b x ih => exact crc8_injective_state (ih h)

/-- Changing one byte changes the checksum (R230). -/
theorem checksum_byte_injective (x y : List Byte) {a b : Byte}
    (h : checksum (x ++ a :: y) = checksum (x ++ b :: y)) : a = b := by
  have hfold := crcOutOf_injective h
  rw [crcFold_append, crcFold_append, crcFold_cons, crcFold_cons] at hfold
  exact crc8_injective_byte (crcFold_injective y hfold)

theorem flipBit_append_cons (x y : List Byte) (b : Byte) (k : Nat) :
    flipBit (x ++ b :: y) x.length k = x ++ (b ^^^ (1#8 <<< k)) :: y :=
  List.modifyTailIdx_add _ 0 x (b :: y)

theorem xor_bit_ne (b : Byte) {k : Nat} (hk : k < 8) : b ^^^ (1#8 <<< k) ≠ b := by
  have hbit : ∀ k < 8, 1#8 <<< k ≠ 0#8 := by decide
  intro h
  exact hbit k hk (by simpa using h)

/-- A sequence taken apart at one of its bytes. -/
theorem exists_append_cons_of_lt {x : List Byte} {j : Nat} (h : j < x.length) :
    ∃ a b y, x = a ++ b :: y ∧ a.length = j :=
  ⟨x.take j, x[j], x.drop (j + 1), by simp, List.length_take_of_le h.le⟩

/-- A frame with one payload or checksum bit flipped has the same header and length, and a trailer that is not its
checksum (R230). -/
theorem flipBit_frame (t : Word) {p : List Byte} {i k : Nat} (h8 : 8 ≤ i) (hi : i < 12 + p.length) (hk : k < 8) :
    ∃ q c, flipBit (frame t p) i k = be32 (lengthWord p) ++ typeBytes t ++ q ++ be32 c ∧ q.length = p.length
      ∧ c ≠ checksum (typeBytes t ++ q) := by
  have hheader : (be32 (lengthWord p) ++ typeBytes t).length = 8 := by simp
  by_cases hp : i < 8 + p.length
  · obtain ⟨x, b, y, rfl, hx⟩ := exists_append_cons_of_lt (x := p) (j := i - 8) (by omega)
    refine ⟨x ++ (b ^^^ (1#8 <<< k)) :: y, checksum (typeBytes t ++ (x ++ b :: y)), ?_, by simp, fun h => ?_⟩
    · have hpos : i = (be32 (lengthWord (x ++ b :: y)) ++ typeBytes t ++ x).length := by
        rw [List.length_append, hheader]; omega
      have hflip := flipBit_append_cons (be32 (lengthWord (x ++ b :: y)) ++ typeBytes t ++ x)
        (y ++ be32 (checksum (typeBytes t ++ (x ++ b :: y)))) b k
      rw [← hpos] at hflip
      simpa [frame, frameBody] using hflip
    · rw [← List.append_assoc, ← List.append_assoc] at h
      exact xor_bit_ne b hk (checksum_byte_injective _ _ h).symm
  · obtain ⟨x, b, y, hsplit, hx⟩ :=
      exists_append_cons_of_lt (x := be32 (checksum (typeBytes t ++ p))) (j := i - 8 - p.length) (by simp; omega)
    have hbytes : be32 (fromBE32 (x ++ (b ^^^ (1#8 <<< k)) :: y)) = x ++ (b ^^^ (1#8 <<< k)) :: y := by
      refine be32_fromBE32_of_length ?_
      have := congrArg List.length hsplit
      simpa using this.symm
    refine ⟨p, fromBE32 (x ++ (b ^^^ (1#8 <<< k)) :: y), ?_, rfl, fun h => ?_⟩
    · have hpos : i = (frameBody t p ++ x).length := by
        rw [frameBody, List.length_append, List.length_append, hheader]; omega
      have hflip := flipBit_append_cons (frameBody t p ++ x) y b k
      rw [← hpos, List.append_assoc, ← hsplit, List.append_assoc] at hflip
      rw [hbytes]
      exact hflip
    · rw [h, hsplit] at hbytes
      exact xor_bit_ne b hk (by simpa using hbytes.symm)

/-- Settles O40: what is flipped keeps the shape of a frame, and `parse` refuses its trailer. -/
theorem tamperedFrameIsRefused : Obligations.TamperedFrameIsRefused := by
  intro t p i k s ha hp h8 hi hk
  obtain ⟨q, c, hflip, hq, hc⟩ := flipBit_frame t h8 hi hk
  have hparse := parse_frame c [] ha (hq.trans (toNat_lengthWord hp).symm)
  rw [List.append_nil, if_neg hc, ← hflip] at hparse
  obtain ⟨n, ⟨r, hr, hresult, -⟩, -⟩ := parses_parse (flipBit (frame t p) i k) s
  exact ⟨r, hr, by rw [hresult, hparse]; rfl⟩

end Sys2Proof.Machine
end

section
/-! SUPPORT. The checksum as the remainder of a polynomial division over GF(2) (R162): one bit step of the reflected
register is a multiplication by x modulo G(x). -/

namespace Sys2Proof.Machine

open Polynomial

/-! ## Words as polynomials -/

/-- Bit `i` as a coefficient of x^i. -/
noncomputable def bitTerm (f : Bool) (i : Nat) : (ZMod 2)[X] := if f then X ^ i else 0

theorem bitTerm_xor (f g : Bool) (i : Nat) : bitTerm (f ^^ g) i = bitTerm f i + bitTerm g i := by
  cases f <;> cases g <;> simp [bitTerm, CharTwo.add_self_eq_zero]

theorem bitTerm_mul_X_pow (f : Bool) (i n : Nat) : bitTerm f i * X ^ n = bitTerm f (i + n) := by
  cases f <;> simp [bitTerm, pow_add]

theorem polyOfWord_eq_sum (v : Word) : polyOfWord v = ∑ i ∈ Finset.range 32, bitTerm (v.getLsbD i) i := rfl

/-- A word's polynomial has a degree below 32. -/
theorem degree_polyOfWord_lt (v : Word) : (polyOfWord v).degree < (32 : ℕ) := by
  refine (degree_sum_le _ _).trans_lt ((Finset.sup_lt_iff (WithBot.bot_lt_coe 32)).2 fun i hi => ?_)
  cases v.getLsbD i
  · exact WithBot.bot_lt_coe 32
  · exact (degree_X_pow_le i).trans_lt (WithBot.coe_lt_coe.2 (Finset.mem_range.1 hi))

/-- G(x) of R162. -/
noncomputable def generator : (ZMod 2)[X] := X ^ 32 + polyOfWord 0x04C11DB7

theorem generator_monic : generator.Monic := monic_X_pow_add (degree_polyOfWord_lt _)

theorem degree_generator : generator.degree = (32 : ℕ) := by
  rw [generator, degree_add_eq_left_of_degree_lt] <;> rw [degree_X_pow]
  exact degree_polyOfWord_lt _

/-! ## The register -/

/-- The polynomial of a register: it is reflected, so its low bit is the coefficient of x^31 (R160). -/
noncomputable def registerPoly (c : Word) : (ZMod 2)[X] := polyOfWord c.reverse

theorem registerPoly_eq_sum (c : Word) :
    registerPoly c = ∑ i ∈ Finset.range 32, bitTerm (c.getLsbD i) (31 - i) := by
  rw [registerPoly, polyOfWord_eq_sum, ← Finset.sum_range_reflect]
  refine Finset.sum_congr rfl fun i hi => ?_
  have hi : i < 32 := Finset.mem_range.1 hi
  rw [BitVec.getLsbD_reverse, BitVec.getMsbD_eq_getLsbD]
  simp [show 31 - i < 32 by omega, show 31 - (31 - i) = i by omega]

theorem registerPoly_xor (c d : Word) : registerPoly (c ^^^ d) = registerPoly c + registerPoly d := by
  rw [registerPoly_eq_sum]
  simp only [BitVec.getLsbD_xor, bitTerm_xor, Finset.sum_add_distrib, registerPoly_eq_sum]

/-- The byte step uses the reflected polynomial (R160). -/
theorem generator_eq : generator = X ^ 32 + registerPoly crcPolyReflected := by
  rw [generator, registerPoly, show crcPolyReflected.reverse = 0x04C11DB7 by decide +kernel]

/-- Multiplying by x shifts the register, whose low bit becomes the coefficient of x^32. -/
theorem registerPoly_mul_X (c : Word) : registerPoly c * X = registerPoly (c >>> 1) + bitTerm (c.getLsbD 0) 32 := by
  have htop : bitTerm ((c >>> 1).getLsbD 31) (31 - 31) = 0 := by
    rw [BitVec.getLsbD_ushiftRight, c.getLsbD_of_ge _ le_rfl]
    rfl
  have hlow : bitTerm (c.getLsbD 0) (31 - 0) * X = bitTerm (c.getLsbD 0) 32 := by
    rw [← pow_one X, bitTerm_mul_X_pow]
  have hterm (i : ℕ) (hi : i ∈ Finset.range 31) :
      bitTerm (c.getLsbD (i + 1)) (31 - (i + 1)) * X = bitTerm ((c >>> 1).getLsbD i) (31 - i) := by
    have hi : i < 31 := Finset.mem_range.1 hi
    rw [← pow_one X, bitTerm_mul_X_pow, BitVec.getLsbD_ushiftRight, Nat.add_comm 1 i,
      show 31 - (i + 1) + 1 = 31 - i by omega]
  rw [registerPoly_eq_sum, registerPoly_eq_sum, Finset.sum_mul, Finset.sum_range_succ' _ 31, Finset.sum_range_succ _ 31,
    htop, add_zero, hlow, Finset.sum_congr rfl hterm]

/-- A bit step multiplies the register by x and subtracts G(x) when x^32 appears (R161, R162). -/
theorem registerPoly_crcBit (c : Word) :
    registerPoly c * X = registerPoly (crcBit c) + generator * bitTerm (c.getLsbD 0) 0 := by
  rw [registerPoly_mul_X]
  unfold crcBit
  split_ifs with h
  · have hG := CharTwo.add_self_eq_zero (registerPoly crcPolyReflected)
    have hX : bitTerm (c.getLsbD 0) 32 = X ^ 32 := by rw [h]; rfl
    have hone : bitTerm (c.getLsbD 0) 0 = 1 := by rw [h]; exact pow_zero X
    rw [hX, hone, registerPoly_xor, generator_eq]
    linear_combination -hG
  · have hzero (n : ℕ) : bitTerm (c.getLsbD 0) n = 0 := if_neg h
    rw [hzero, hzero, mul_zero]

/-- `n` bit steps multiply the register by x^n, up to a multiple of G(x). -/
theorem generator_dvd_crcBits (n : Nat) (c : Word) :
    generator ∣ registerPoly c * X ^ n - registerPoly (crcBits n c) := by
  induction n generalizing c with
  | zero => simp [crcBits]
  | succ n ih =>
    have hstep : registerPoly c * X ^ (n + 1) - registerPoly (crcBits n (crcBit c))
        = registerPoly (crcBit c) * X ^ n - registerPoly (crcBits n (crcBit c))
          + generator * (bitTerm (c.getLsbD 0) 0 * X ^ n) := by
      rw [pow_succ', ← mul_assoc, registerPoly_crcBit]
      ring
    rw [crcBits, hstep]
    exact (ih _).add (dvd_mul_right _ _)

/-! ## The message -/

/-- The bits of a byte, the first one transmitted being the coefficient of x^7 (R162). -/
noncomputable def bytePoly (b : Byte) : (ZMod 2)[X] := ∑ i ∈ Finset.range 8, bitTerm (b.getLsbD i) (7 - i)

/-- A byte enters the register at its high coefficients (R161). -/
theorem registerPoly_zext32 (b : Byte) : registerPoly (zext32 b) = bytePoly b * X ^ 24 := by
  have hhigh : ∑ i ∈ Finset.range 24, bitTerm ((zext32 b).getLsbD (8 + i)) (31 - (8 + i)) = 0 := by
    refine Finset.sum_eq_zero fun i _ => ?_
    rw [getLsbD_zext32, b.getLsbD_of_ge _ (Nat.le_add_right 8 i)]
    rfl
  rw [registerPoly_eq_sum, Finset.sum_range_add _ 8 24, hhigh, add_zero, bytePoly, Finset.sum_mul]
  refine Finset.sum_congr rfl fun i hi => ?_
  have := Finset.mem_range.1 hi
  rw [getLsbD_zext32, bitTerm_mul_X_pow, show 7 - i + 24 = 31 - i by omega]

theorem messagePoly_eq_sum (s : List Byte) :
    messagePoly s = ∑ j ∈ Finset.range (8 * s.length),
      bitTerm ((s.getD (j / 8) 0).getLsbD (j % 8)) (8 * s.length - 1 - j) := rfl

/-- One more byte multiplies the message by x^8 and adds the byte. -/
theorem messagePoly_concat (s : List Byte) (b : Byte) :
    messagePoly (s ++ [b]) = messagePoly s * X ^ 8 + bytePoly b := by
  rw [messagePoly_eq_sum, messagePoly_eq_sum, List.length_append, List.length_singleton, Nat.mul_add,
    Finset.sum_range_add, Finset.sum_mul, bytePoly]
  congr 1 <;> refine Finset.sum_congr rfl fun i hi => ?_
  · have hi : i < 8 * s.length := Finset.mem_range.1 hi
    rw [List.getD_append _ _ _ _ (by omega), bitTerm_mul_X_pow,
      show 8 * s.length - 1 - i + 8 = 8 * s.length + 8 * 1 - 1 - i by omega]
  · have hi : i < 8 := Finset.mem_range.1 hi
    have hbyte : (s ++ [b]).getD ((8 * s.length + i) / 8) 0 = b := by
      rw [show (8 * s.length + i) / 8 = s.length by omega, List.getD_append_right _ _ _ _ le_rfl, Nat.sub_self]
      rfl
    rw [hbyte, show (8 * s.length + i) % 8 = i by omega,
      show 8 * s.length + 8 * 1 - 1 - (8 * s.length + i) = 7 - i by omega]

/-- A byte step keeps the remainder (R161, R162). -/
theorem generator_dvd_crc8 (c : Word) (b : Byte) :
    generator ∣ (registerPoly c * X ^ 8 + bytePoly b * X ^ 32) - registerPoly (crc8 c b) := by
  have h := generator_dvd_crcBits 8 (c ^^^ zext32 b)
  rw [registerPoly_xor, registerPoly_zext32, add_mul, mul_assoc, ← pow_add] at h
  exact h

/-- The register after a sequence is congruent to x^32 M(x) + x^(8n) I(x) (R162). -/
theorem generator_dvd_crcFold (s : List Byte) :
    generator ∣ (X ^ 32 * messagePoly s + X ^ (8 * s.length) * registerPoly crcInitial)
      - registerPoly (crcFold crcInitial s) := by
  induction s using List.reverseRecOn with
  | nil => simp [messagePoly]
  | append_singleton s b ih =>
    have hstep : X ^ 32 * messagePoly (s ++ [b]) + X ^ (8 * (s ++ [b]).length) * registerPoly crcInitial
          - registerPoly (crcFold crcInitial (s ++ [b]))
        = (X ^ 32 * messagePoly s + X ^ (8 * s.length) * registerPoly crcInitial
            - registerPoly (crcFold crcInitial s)) * X ^ 8
          + (registerPoly (crcFold crcInitial s) * X ^ 8 + bytePoly b * X ^ 32
            - registerPoly (crc8 (crcFold crcInitial s) b)) := by
      rw [messagePoly_concat, crcFold_concat, List.length_append, List.length_singleton, Nat.mul_add, pow_add]
      ring
    rw [hstep]
    exact (ih.mul_right _).add (generator_dvd_crc8 _ b)

/-- Settles O21: the register's polynomial has a degree below G's, so it is the remainder it is congruent to. -/
theorem checksumIsPolynomialRemainder : Obligations.ChecksumIsPolynomialRemainder := by
  intro s
  refine ⟨(crcFold crcInitial s).reverse, ?remainder, ?checksum⟩
  case checksum => rw [BitVec.reverse_reverse_eq]; rfl
  case remainder =>
    have hinitial : registerPoly crcInitial = polyOfWord 0xFFFFFFFF := by
      rw [registerPoly, show crcInitial.reverse = 0xFFFFFFFF by decide +kernel]
    have hdeg : (registerPoly (crcFold crcInitial s)).degree < generator.degree := by
      rw [degree_generator]
      exact degree_polyOfWord_lt _
    rw [← hinitial]
    exact (modByMonic_eq_of_dvd_sub generator_monic (generator_dvd_crcFold s)).trans
      ((modByMonic_eq_self_iff generator_monic).2 hdeg)

end Sys2Proof.Machine
end
